-- ==== Sys2Proof/Word.lean ====
section
/-! DEFINITION. The bit vectors of the block: bytes, half words, words and the 72-bit command word. -/

namespace Sys2Proof

/-- A byte (00_scope.md R9). -/
abbrev Byte := BitVec 8

/-- A 16-bit field: an analog code or a motion code (10_state.md R21). -/
abbrev Half := BitVec 16

/-- A 32-bit field or counter (10_state.md R21, R26, R27). -/
abbrev Word := BitVec 32

/-- A command word `W[71:0]` (30_encoding.md R70). -/
abbrev Command := BitVec 72

end Sys2Proof
end

