-- ==== Sys2Proof/Syntax.lean ====
section
/-! DEFINITION. The commands of the block, one constructor per row of the opcode table (30_encoding.md R73). -/

namespace Sys2Proof

/-- A command with its operands. Operands are the unsigned fields of 30_encoding.md R71 and R72. -/
inductive Instr
  /-- INIT (40_sensor_interface.md R100). -/
  | init
  /-- READ (R110). -/
  | read
  /-- LOAD_AUX `TS, AN, B0, B1` (R113). -/
  | loadAux (ts : Word) (an : Half) (b0 b1 : Byte)
  /-- DATA_START (41_framing.md R134). -/
  | dataStart
  /-- DATA_ELEMENT (R135). -/
  | dataElement
  /-- DATA_END (R136). -/
  | dataEnd
  /-- HEARTBEAT (R137). -/
  | heartbeat
  /-- MSG_OPEN (R138). -/
  | msgOpen
  /-- MSG_CHAR `BYTE` (R139). -/
  | msgChar (byte : Byte)
  /-- MSG_CLOSE `LN` (R140). -/
  | msgClose (ln : Bool)
  /-- ERROR_CODE `BYTE` (R141). -/
  | errorCode (byte : Byte)
  /-- FATAL (R143). -/
  | fatal
deriving DecidableEq, Repr, Inhabited

end Sys2Proof
end

