-- ==== Sys2Proof/Config.lean ====
section
/-! DEFINITION. What is fixed for one block (the parameters), what the environment may choose, and the free values. -/

namespace Sys2Proof

/-- The implementation parameters of 00_scope.md R7. A configuration is an argument of every step (log 1): it is
the field `cfg` of State, which no step changes. The two delays are 32 bits wide, so the third constraint of R8 is
held by the type (log 3); `Params.withDelays` refuses the others. -/
structure Params where
  /-- `DEV_ADDR`, the sensor's 7-bit bus address. -/
  devAddr : BitVec 7
  /-- `REG_PWR`, the register of the reset bit, the sleep bit and the clock select. -/
  regPwr : Byte
  /-- `PWR_RESET_VALUE`. -/
  pwrResetValue : Byte
  /-- `REG_RESET_STATUS`, the register polled for the reset bit. -/
  regResetStatus : Byte
  /-- `RESET_MASK`, the reset bit in the polled byte; must not be zero (R8). -/
  resetMask : Byte
  /-- `REG_SPR`, the signal-path reset register. -/
  regSpr : Byte
  /-- `SPR_VALUE`. -/
  sprValue : Byte
  /-- `PWR_RUN_VALUE`. -/
  pwrRunValue : Byte
  /-- `BURST_START_REG`, the first of the 14 registers; at most 0xF2 (R8). -/
  burstStartReg : Byte
  /-- `T_SETTLE`, in controller ticks. -/
  tSettle : Word
  /-- `T_SPR`, in controller ticks. -/
  tSpr : Word
  /-- `POLL_LIMIT`; 0 means unbounded polling. -/
  pollLimit : Word
  /-- `REC_LITTLE_ENDIAN`, the byte order of the record's fields on the wire. -/
  recLittleEndian : Bool
  /-- `BUS_CLOCK_HZ`; informative, no rule reads it (R7). -/
  busClockHz : Nat
deriving DecidableEq, Repr, Inhabited

/-- `BURST_LEN` (R7: fixed by the source). -/
def burstLen : Nat := 14

/-- `REC_BYTES` (R7: derived from the record's widths). -/
def recBytesLen : Nat := 20

/-- R7 gives the delays as natural numbers; R8 refuses one that does not fit the 32-bit delay counter. -/
def Params.withDelays (p : Params) (tSettle tSpr : Nat) : Option Params :=
  if tSettle < 2 ^ 32 ∧ tSpr < 2 ^ 32 then
    some { p with tSettle := BitVec.ofNat 32 tSettle, tSpr := BitVec.ofNat 32 tSpr }
  else none

/-- One answer of the bus and device oracle (00_scope.md R10, 60_exceptions.md R182): the acknowledge and the
bytes. A read of n registers takes the first n bytes; a write takes none (log 22). -/
structure BusAnswer where
  ok : Bool
  data : Vector Byte 14
deriving DecidableEq, Repr, Inhabited

/-- What the environment brings to one step (00_scope.md R5, R6; log 4). -/
inductive Event
  /-- `rst` = 1 at this step boundary (70_reset_and_hazards.md R190). -/
  | rst
  /-- The controller's turn: `none` is `cmd_valid` = 0, `some w` is `cmd_valid` = 1 with `cmd_word` = w
  (10_state.md R39). -/
  | controller (cmd : Option Command)
  /-- The transport's turn, with `tx_ready` (10_state.md R38, 41_framing.md R132). -/
  | transport (ready : Bool)
deriving DecidableEq, Repr, Inhabited

/-- FREE VALUE: the environment's choice at step `n` of a run, where State lists none (log 4). -/
opaque Config.freeEvent : Nat → Event

/-- FREE VALUE: the oracle's answer to transaction `n` of a run, where State lists none (log 5; U1, U2, U3). -/
opaque Config.freeDraw : Nat → BusAnswer

/-- FREE VALUE: `tx_data` while `tx_valid` = 0 (10_state.md R38, U8; log 7). -/
opaque Config.freeTxData : Nat → Byte

/-- FREE VALUE: `T_SETTLE`, for which R7 gives no default (log 3). -/
opaque Config.tSettle : Word

/-- FREE VALUE: `T_SPR`, for which R7 gives no default (log 3). -/
opaque Config.tSpr : Word

/-- The configuration of State.reset: R7's defaults, and the free delays (log 2). -/
def Config.params : Params where
  devAddr := 0x68#7
  regPwr := 0x6B#8
  pwrResetValue := 0x80#8
  regResetStatus := 0x6B#8
  resetMask := 0x80#8
  regSpr := 0x68#8
  sprValue := 0x07#8
  pwrRunValue := 0x00#8
  burstStartReg := 0x3B#8
  tSettle := Config.tSettle
  tSpr := Config.tSpr
  pollLimit := 0#32
  recLittleEndian := true
  busClockHz := 400000

end Sys2Proof
end

