-- ==== Sys2Proof/WellFormed.lean ====
section
/-! DEFINITION. The checks on what is given to the model: the configuration (00_scope.md R8) and the assembler's
lines (30_encoding.md R78, R79). A command's operands have exactly the widths of their fields, by their types, so
every `Instr` is well formed. -/

namespace Sys2Proof

/-- The constraints of 00_scope.md R8: the reset bit is visible and the 14 registers do not wrap. The third, on the
delays, is held by the type of `tSettle` and `tSpr` (`Params.withDelays` refuses the rest). -/
def Params.wellFormed (p : Params) : Bool :=
  decide (p.resetMask ≠ 0#8) && decide (p.burstStartReg.toNat + 13 ≤ 0xFF)

/-- A line of the assembler: a command with its operands as written numbers (R78), or a pseudo-command (R79). Text
is the list of its ASCII codes. -/
inductive Line
  | init
  | read
  | loadAux (ts an b0 b1 : Nat)
  | dataStart
  | dataElement
  | dataEnd
  | heartbeat
  | msgOpen
  | msgChar (c : Nat)
  | msgClose (ln : Nat)
  | errorCode (c : Nat)
  | fatal
  | message (text : List Nat)
  | messageLn (text : List Nat)
  | sample (ts an b0 b1 : Nat)
deriving DecidableEq, Repr

/-- The operands of LOAD_AUX and SAMPLE fit the fields of format A (R71). -/
def auxFits (ts an b0 b1 : Nat) : Bool :=
  decide (ts < 2 ^ 32) && decide (an < 2 ^ 16) && decide (b0 < 2 ^ 8) && decide (b1 < 2 ^ 8)

/-- Each operand fits its field (log 23); `LN` is 0 or 1; text is ASCII (R78, R79; log 21). -/
def Line.wellFormed : Line → Bool
  | .loadAux ts an b0 b1 => auxFits ts an b0 b1
  | .sample ts an b0 b1 => auxFits ts an b0 b1
  | .msgChar c => decide (c < 2 ^ 8)
  | .errorCode c => decide (c < 2 ^ 8)
  | .msgClose ln => decide (ln < 2)
  | .message text => text.all fun c => decide (c < 2 ^ 7)
  | .messageLn text => text.all fun c => decide (c < 2 ^ 7)
  | .init => true
  | .read => true
  | .dataStart => true
  | .dataElement => true
  | .dataEnd => true
  | .heartbeat => true
  | .msgOpen => true
  | .fatal => true

end Sys2Proof
end

