-- ==== Sys2Proof/Decode.lean ====
section
/-! DEFINITION. Decoding of command words, the encoder, and the assembler (30_encoding.md). -/

namespace Sys2Proof

/-- Why a word is no command: its opcode is unassigned (30_encoding.md R74). -/
inductive DecodeError
  | illegalOpcode (op : Byte)
deriving DecidableEq, Repr

/-- `OP` = `W[71:64]` (R70). -/
def Command.op (w : Command) : Byte := w.extractLsb' 64 8

/-- `BYTE` = `W[7:0]` (R72, format B). -/
def Command.byteArg (w : Command) : Byte := w.extractLsb' 0 8

/-- `LN` = `W[0]` (R72, format L). -/
def Command.lnArg (w : Command) : Bool := w.getLsbD 0

/-- `TS` = `W[31:0]` (R72, format A). -/
def Command.tsArg (w : Command) : Word := w.extractLsb' 0 32

/-- `AN` = `W[47:32]` (R72, format A). -/
def Command.anArg (w : Command) : Half := w.extractLsb' 32 16

/-- `B0` = `W[55:48]` (R72, format A). -/
def Command.b0Arg (w : Command) : Byte := w.extractLsb' 48 8

/-- `B1` = `W[63:56]` (R72, format A). -/
def Command.b1Arg (w : Command) : Byte := w.extractLsb' 56 8

/-- The opcode map (R73). -/
def Instr.opcode : Instr → Byte
  | .init => 0x01#8
  | .read => 0x02#8
  | .loadAux _ _ _ _ => 0x03#8
  | .dataStart => 0x10#8
  | .dataElement => 0x11#8
  | .dataEnd => 0x12#8
  | .heartbeat => 0x13#8
  | .msgOpen => 0x14#8
  | .msgChar _ => 0x15#8
  | .msgClose _ => 0x16#8
  | .errorCode _ => 0x17#8
  | .fatal => 0x1F#8

/-- Decoding by opcode alone; no bit of `ARG` takes part, and the bits a format does not use are ignored
(R73, R75). Total: every other opcode is unassigned and rejected by name (R74). -/
def decode (w : Command) : Except DecodeError Instr :=
  if w.op = 0x01#8 then .ok .init
  else if w.op = 0x02#8 then .ok .read
  else if w.op = 0x03#8 then .ok (.loadAux w.tsArg w.anArg w.b0Arg w.b1Arg)
  else if w.op = 0x10#8 then .ok .dataStart
  else if w.op = 0x11#8 then .ok .dataElement
  else if w.op = 0x12#8 then .ok .dataEnd
  else if w.op = 0x13#8 then .ok .heartbeat
  else if w.op = 0x14#8 then .ok .msgOpen
  else if w.op = 0x15#8 then .ok (.msgChar w.byteArg)
  else if w.op = 0x16#8 then .ok (.msgClose w.lnArg)
  else if w.op = 0x17#8 then .ok (.errorCode w.byteArg)
  else if w.op = 0x1F#8 then .ok .fatal
  else .error (.illegalOpcode w.op)

/-- The instruction the decoder reads from a row's bits (host interface; log 13). A command is ONE word of 72 bits,
so its bits are the table's bits; bits from `nbits` up are 0. -/
def decodeTableWord (nbits w : Nat) : Option Instr :=
  match decode (BitVec.ofNat 72 (w % 2 ^ nbits)) with
  | .ok i => some i
  | .error _ => none

/-- The argument `ARG[63:0]` of a command; every ignored bit is 0 (R71, R78). -/
def Instr.arg : Instr → BitVec 64
  | .loadAux ts an b0 b1 => b1 ++ b0 ++ an ++ ts
  | .msgChar byte => 0#56 ++ byte
  | .errorCode byte => 0#56 ++ byte
  | .msgClose ln => 0#63 ++ BitVec.ofBool ln
  | .init => 0#64
  | .read => 0#64
  | .dataStart => 0#64
  | .dataElement => 0#64
  | .dataEnd => 0#64
  | .heartbeat => 0#64
  | .msgOpen => 0#64
  | .fatal => 0#64

/-- The word of a command, `OP` then `ARG` (R70, R78). -/
def encode (i : Instr) : Command := i.opcode ++ i.arg

/-- The bits of a command's word that mean something: the opcode, and the operand fields of its format
(R71); the others are ignored (R75). -/
def Instr.careMask : Instr → Command
  | .loadAux _ _ _ _ => 0xFFFFFFFFFFFFFFFFFF#72
  | .msgChar _ => 0xFF00000000000000FF#72
  | .errorCode _ => 0xFF00000000000000FF#72
  | .msgClose _ => 0xFF0000000000000001#72
  | .init => 0xFF0000000000000000#72
  | .read => 0xFF0000000000000000#72
  | .dataStart => 0xFF0000000000000000#72
  | .dataElement => 0xFF0000000000000000#72
  | .dataEnd => 0xFF0000000000000000#72
  | .heartbeat => 0xFF0000000000000000#72
  | .msgOpen => 0xFF0000000000000000#72
  | .fatal => 0xFF0000000000000000#72

/-- The commands of a Message frame around a text (R79). -/
def messageCommands (text : List Nat) (ln : Bool) : List Instr :=
  .msgOpen :: text.map (fun c => Instr.msgChar (BitVec.ofNat 8 c)) ++ [.msgClose ln]

/-- LOAD_AUX with written operands (R78). -/
def loadAuxOf (ts an b0 b1 : Nat) : Instr :=
  .loadAux (BitVec.ofNat 32 ts) (BitVec.ofNat 16 an) (BitVec.ofNat 8 b0) (BitVec.ofNat 8 b1)

/-- The commands a line stands for (R78, R79). -/
def Line.expand : Line → List Instr
  | .init => [.init]
  | .read => [.read]
  | .loadAux ts an b0 b1 => [loadAuxOf ts an b0 b1]
  | .dataStart => [.dataStart]
  | .dataElement => [.dataElement]
  | .dataEnd => [.dataEnd]
  | .heartbeat => [.heartbeat]
  | .msgOpen => [.msgOpen]
  | .msgChar c => [.msgChar (BitVec.ofNat 8 c)]
  | .msgClose ln => [.msgClose (ln == 1)]
  | .errorCode c => [.errorCode (BitVec.ofNat 8 c)]
  | .fatal => [.fatal]
  | .message text => messageCommands text false
  | .messageLn text => messageCommands text true
  | .sample ts an b0 b1 => [loadAuxOf ts an b0 b1, .read, .dataElement]

/-- The words of a well-formed line; an ill-formed line has none (R78). -/
def Line.assemble (l : Line) : Option (List Command) :=
  if l.wellFormed then some (l.expand.map encode) else none

end Sys2Proof
end

