-- ==== Sys2Proof/Machine/State.lean ====
section
/-! DEFINITION. The state of the block (10_state.md R37), the environment's pending choices and the observation of
a run beside it, the reasons a step can stop, and the state after reset. -/

namespace Sys2Proof.Machine

/-- `REC`, the record buffer (10_state.md R21). Fields stand in the wire order; the motion fields hold 16-bit
two's-complement patterns. -/
structure SampleRecord where
  timestamp : Word
  analog : Half
  button0 : Byte
  button1 : Byte
  accelX : Half
  accelY : Half
  accelZ : Half
  gyroX : Half
  gyroY : Half
  gyroZ : Half
deriving DecidableEq, Repr

/-- The named codes of `INIT_STATE` (10_state.md R23). -/
inductive InitState
  | idle
  | resetWr
  | poll
  | settle
  | sprWr
  | sprDly
  | clkWr
  | configured
  | initTimeout
deriving DecidableEq, Repr

/-- The named codes of `REJ_CAUSE` (60_exceptions.md R170). -/
inductive RejCause
  | none
  | illegalOpcode
  | msgInProgress
  | noMsgOpen
  | initState
deriving DecidableEq, Repr

/-- One bus transaction with the oracle's answer, as the observation of a run lists it (60_exceptions.md R187): a
write of one byte, or one read of the registers from `reg` on (20_memory.md R51, R52). -/
inductive BusTransaction
  | write (dev : BitVec 7) (reg value : Byte) (ok : Bool)
  | read (dev : BitVec 7) (reg : Byte) (bytes : List Byte) (ok : Bool)
deriving DecidableEq, Repr

/-- The state. The first group is the block's own, complete by 10_state.md R37. The second is the model's: the
configuration (log 1), the environment's pending choices (logs 4, 5) and the observation of the run (log 8). -/
structure State where
  /-- `REC` (R21). -/
  record : SampleRecord
  /-- `INIT_STATE`, 4 bits (R23). -/
  initState : BitVec 4
  /-- `DELAY` (R26). -/
  delay : Word
  /-- `POLL_COUNT` (R27). -/
  pollCount : Word
  /-- `TXQ`, the bytes of the current frame not yet accepted (R28). -/
  txq : List Byte
  /-- `MSG_OPEN` (R29). -/
  msgOpen : Bool
  /-- `HALTED` (R30). -/
  halted : Bool
  /-- `CMD_REJECTED` (R31). -/
  cmdRejected : Bool
  /-- `REJ_CAUSE`, 3 bits (R31). -/
  rejCause : BitVec 3
  /-- `BUS_ERR` (R32). -/
  busErr : Bool
  /-- The parameters (00_scope.md R7). -/
  cfg : Params
  /-- The environment's choices for the coming steps, the next one first. -/
  events : List Event
  /-- The number of steps taken. -/
  now : Nat
  /-- The oracle's answers to the coming transactions, the next one first. -/
  draws : List BusAnswer
  /-- The number of transactions made. -/
  drawn : Nat
  /-- `OUT`, every byte transferred, the first one first (41_framing.md R132). -/
  out : List Byte
  /-- Every bus transaction made, the first one first (60_exceptions.md R187). -/
  bus : List BusTransaction
deriving DecidableEq, Repr

/-- Faults (93_implementation_defined.md U10). Both are raised by `step` on any turn of the controller or the
transport, never by an instruction's meaning; both are safe: the spec says such a state is unreachable. -/
inductive Fault
  /-- `INIT_STATE` holds a code 9..15. Safe. -/
  | unnamedInitState (code : BitVec 4)
  /-- `REJ_CAUSE` holds a code 5..7. Safe. -/
  | unnamedRejCause (code : BitVec 3)
deriving DecidableEq, Repr

/-- Refusals. -/
inductive Refusal
  /-- Raised by `exec` for an instruction that has no meaning yet; no arm raises it. Safe. -/
  | notModelled (mnemonic : String)
  /-- Raised by `step` when the configuration breaks a constraint of 00_scope.md R8, which says the model refuses
  it. Safe. -/
  | badConfiguration
deriving DecidableEq, Repr

/-- `REC` after reset (R37). -/
def SampleRecord.reset : SampleRecord where
  timestamp := 0#32
  analog := 0#16
  button0 := 0#8
  button1 := 0#8
  accelX := 0#16
  accelY := 0#16
  accelZ := 0#16
  gyroX := 0#16
  gyroY := 0#16
  gyroZ := 0#16

/-- A block of configuration `p` right after reset (R37), with no choice of the environment listed and nothing
observed yet (log 11). -/
def State.resetWith (p : Params) : State where
  record := SampleRecord.reset
  initState := 0#4
  delay := 0#32
  pollCount := 0#32
  txq := []
  msgOpen := false
  halted := false
  cmdRejected := false
  rejCause := 0#3
  busErr := false
  cfg := p
  events := []
  now := 0
  draws := []
  drawn := 0
  out := []
  bus := []

/-- The machine right after reset, at the configuration of `Config.params` (log 2). -/
def State.reset : State := State.resetWith Config.params

end Sys2Proof.Machine
end

