-- ==== Sys2Proof/Machine/Operands.lean ====
section
/-! DEFINITION. The forms of data: sensor words, the record's bytes, hexadecimal digits and the fixed texts
(00_scope.md R9, 20_memory.md R53 to R55, 41_framing.md R130, R131, R141 to R143). -/

namespace Sys2Proof.Machine

/-- `s16(p)`, the integer a 16-bit pattern denotes (R9). -/
def s16 (p : Half) : Int := if p.toNat < 0x8000 then p.toNat else (p.toNat : Int) - 0x10000

/-- `sat32(n)` (R9). -/
def sat32 (n : Nat) : Word := BitVec.ofNat 32 (min n (2 ^ 32 - 1))

/-- `le16(v)` (R9). -/
def le16 (v : Half) : List Byte := [v.extractLsb' 0 8, v.extractLsb' 8 8]

/-- `be16(v)` (R9). -/
def be16 (v : Half) : List Byte := [v.extractLsb' 8 8, v.extractLsb' 0 8]

/-- `le32(v)` (R9). -/
def le32 (v : Word) : List Byte :=
  [v.extractLsb' 0 8, v.extractLsb' 8 8, v.extractLsb' 16 8, v.extractLsb' 24 8]

/-- The big-endian form of a 32-bit field (R55). -/
def be32 (v : Word) : List Byte :=
  [v.extractLsb' 24 8, v.extractLsb' 16 8, v.extractLsb' 8 8, v.extractLsb' 0 8]

/-- `ser(v, 16)` (R55), in the byte order of `REC_LITTLE_ENDIAN`. -/
def ser16 (little : Bool) (v : Half) : List Byte := if little then le16 v else be16 v

/-- `ser(v, 32)` (R55). -/
def ser32 (little : Bool) (v : Word) : List Byte := if little then le32 v else be32 v

/-- `RecBytes(REC)`: 20 bytes, packed, in the order of the record's table (R55). -/
def recBytes (little : Bool) (r : SampleRecord) : List Byte :=
  ser32 little r.timestamp ++ ser16 little r.analog ++ [r.button0] ++ [r.button1]
    ++ ser16 little r.accelX ++ ser16 little r.accelY ++ ser16 little r.accelZ
    ++ ser16 little r.gyroX ++ ser16 little r.gyroY ++ ser16 little r.gyroZ

/-- The 16-bit big-endian word whose first byte on the bus is `hi` (20_memory.md R53). -/
def sensorWord (hi lo : Byte) : Half := hi ++ lo

/-- The record with its six motion fields taken from the 14 burst bytes; bytes 6 and 7 are the temperature,
discarded; the other fields stay (40_sensor_interface.md R111, R112). -/
def SampleRecord.withBurst (r : SampleRecord) (b : Vector Byte 14) : SampleRecord :=
  { r with
    accelX := sensorWord b[0] b[1]
    accelY := sensorWord b[2] b[3]
    accelZ := sensorWord b[4] b[5]
    gyroX := sensorWord b[8] b[9]
    gyroY := sensorWord b[10] b[11]
    gyroZ := sensorWord b[12] b[13] }

/-- The record with its four host fields taken from LOAD_AUX's operands, unchecked (R113). -/
def SampleRecord.withAux (r : SampleRecord) (ts : Word) (an : Half) (b0 b1 : Byte) : SampleRecord :=
  { r with timestamp := ts, analog := an, button0 := b0, button1 := b1 }

/-- `Hex(d)`: one uppercase ASCII digit (41_framing.md R142). -/
def hexDigit (d : BitVec 4) : Byte :=
  if d.toNat < 10 then BitVec.ofNat 8 (0x30 + d.toNat) else BitVec.ofNat 8 (0x41 + (d.toNat - 10))

/-- Tag of a Message frame (R130). -/
def tagMessage : Byte := 0x00#8

/-- Tag of a DataStart frame (R130). -/
def tagDataStart : Byte := 0x01#8

/-- Tag of a DataElement frame (R130). -/
def tagDataElement : Byte := 0x02#8

/-- Tag of a DataEnd frame (R130). -/
def tagDataEnd : Byte := 0x03#8

/-- Tag of a Heartbeat frame (R130). -/
def tagHeartbeat : Byte := 0xFA#8

/-- Tag of an ErrorMarker frame (R130). -/
def tagErrorMarker : Byte := 0xFF#8

/-- The terminator of a Message frame (R131). -/
def terminator : Byte := 0x00#8

/-- The line feed of line semantics: one byte (R131). -/
def lineFeed : Byte := 0x0A#8

/-- The ASCII codes of the error text's head: two spaces, then "Error: 0x" (R141). -/
def errorText : List Byte :=
  [0x20#8, 0x20#8, 0x45#8, 0x72#8, 0x72#8, 0x6F#8, 0x72#8, 0x3A#8, 0x20#8, 0x30#8, 0x78#8]

/-- The ASCII codes of "---ERROR---" (R143). -/
def fatalText : List Byte :=
  [0x2D#8, 0x2D#8, 0x2D#8, 0x45#8, 0x52#8, 0x52#8, 0x4F#8, 0x52#8, 0x2D#8, 0x2D#8, 0x2D#8]

/-- The end of a Message frame: an optional line feed, then the terminator (R140). -/
def messageEnd (ln : Bool) : List Byte := if ln then [lineFeed, terminator] else [terminator]

/-- The DataElement frame of a record (R135). -/
def elementFrame (little : Bool) (r : SampleRecord) : List Byte := tagDataElement :: recBytes little r

/-- The Message frame of an error code (R141). -/
def errorFrame (byte : Byte) : List Byte :=
  [tagMessage] ++ errorText ++ [hexDigit (byte.extractLsb' 4 4), hexDigit (byte.extractLsb' 0 4)] ++ [terminator]

/-- The two fatal frames: the Message "---ERROR---" with line semantics, then the ErrorMarker (R143). -/
def fatalFrames : List Byte := [tagMessage] ++ fatalText ++ [lineFeed, terminator] ++ [tagErrorMarker]

/-- What FATAL emits: the terminator of an open message first, then the fatal frames (R143). -/
def fatalEmission (msgOpen : Bool) : List Byte := if msgOpen then terminator :: fatalFrames else fatalFrames

end Sys2Proof.Machine
end

