-- ==== Sys2Proof/Machine/Flags.lean ====
section
/-! DEFINITION. The codes of the state registers, the computed signals and the outputs (10_state.md R23, R33 to
R39, 60_exceptions.md R170). -/

namespace Sys2Proof.Machine

/-- The code of an initialization state (R23). -/
def InitState.code : InitState → BitVec 4
  | .idle => 0#4
  | .resetWr => 1#4
  | .poll => 2#4
  | .settle => 3#4
  | .sprWr => 4#4
  | .sprDly => 5#4
  | .clkWr => 6#4
  | .configured => 7#4
  | .initTimeout => 8#4

/-- The initialization state a code names; codes 9..15 name none (R23). -/
def InitState.ofCode (c : BitVec 4) : Option InitState :=
  if c = 0#4 then some .idle
  else if c = 1#4 then some .resetWr
  else if c = 2#4 then some .poll
  else if c = 3#4 then some .settle
  else if c = 4#4 then some .sprWr
  else if c = 5#4 then some .sprDly
  else if c = 6#4 then some .clkWr
  else if c = 7#4 then some .configured
  else if c = 8#4 then some .initTimeout
  else none

/-- The code of a rejection cause (R170). -/
def RejCause.code : RejCause → BitVec 3
  | .none => 0#3
  | .illegalOpcode => 1#3
  | .msgInProgress => 2#3
  | .noMsgOpen => 3#3
  | .initState => 4#3

/-- Codes 5..7 name no cause (R170). -/
def rejCauseNamed (c : BitVec 3) : Bool := decide (c.toNat ≤ 4)

/-- The fault of a state that holds a code the spec says is never produced (93_implementation_defined.md U10;
log 9). -/
def State.unnamedCode (s : State) : Option Fault :=
  match InitState.ofCode s.initState with
  | none => some (.unnamedInitState s.initState)
  | some _ => if rejCauseNamed s.rejCause then none else some (.unnamedRejCause s.rejCause)

/-- `INIT_STATE` is one of the six transient states, where an FSM step is enabled (R33, R117). -/
def State.transient (s : State) : Bool :=
  decide (s.initState ∈ [InitState.resetWr.code, InitState.poll.code, InitState.settle.code,
    InitState.sprWr.code, InitState.sprDly.code, InitState.clkWr.code])

/-- `BUSY` (R33). -/
def State.busy (s : State) : Bool := s.transient || decide (s.txq ≠ [])

/-- `cmd_ready` (R39). -/
def State.cmdReady (s : State) : Bool := !s.busy

/-- `tx_valid` (R38). -/
def State.txValid (s : State) : Bool := decide (s.txq ≠ [])

/-- `tx_data`: the head of `TXQ`; any value while `tx_valid` = 0 (R38, U8; log 7). -/
def State.txData (s : State) : Byte :=
  match s.txq with
  | b :: _ => b
  | [] => Config.freeTxData s.now

/-- The 16-bit `status` output (R34, R36), bits [15:12] first. -/
def State.status (s : State) : BitVec 16 :=
  0#4 ++ BitVec.ofBool s.busErr ++ s.rejCause ++ BitVec.ofBool s.cmdRejected ++ BitVec.ofBool s.msgOpen
    ++ BitVec.ofBool s.halted ++ BitVec.ofBool s.busy ++ s.initState

/-- The 32-bit `poll_count` output (R35). -/
def State.pollCountOut (s : State) : Word := s.pollCount

end Sys2Proof.Machine
end

