-- ==== Sys2Proof/Machine/Ops.lean ====
section
/-! DEFINITION. The named operations of the spec's pseudocode (00_scope.md R10): the environment's choices, bus
transactions, emitting a frame, rejecting a command (the one exception of this block), the checks at acceptance,
the transport's step and the reset. -/

namespace Sys2Proof.Machine

/-- The environment's choice for this step: the first listed, else a free one (log 4). -/
def State.event (s : State) : Event := s.events.headD (Config.freeEvent s.now)

/-- The state after this step's choice has been taken off the list. -/
def State.tick (s : State) : State := { s with events := s.events.tail, now := s.now + 1 }

/-- The oracle's answer to the next transaction: the first listed, else a free one (R10; log 5). -/
def State.answer (s : State) : BusAnswer := s.draws.headD (Config.freeDraw s.drawn)

/-- One transaction is made: its answer is taken off the list, and the observation of the run gets it
(60_exceptions.md R187). -/
def State.transact (t : BusTransaction) (s : State) : State :=
  { s with draws := s.draws.tail, drawn := s.drawn + 1, bus := s.bus ++ [t] }

/-- `LatchBusErr(ok)` (60_exceptions.md R172). -/
def State.latchBusErr (ok : Bool) (s : State) : State := { s with busErr := s.busErr || !ok }

/-- `BusWrite(reg, v)` to `DEV_ADDR`, its acknowledge latched (R10, 20_memory.md R51, 40_sensor_interface.md
R115). -/
def State.busWrite (reg v : Byte) (s : State) : State :=
  (s.transact (.write s.cfg.devAddr reg v s.answer.ok)).latchBusErr s.answer.ok

/-- `BusRead(reg, n)` from `DEV_ADDR` as one transaction, its acknowledge latched; the bytes are the answer's first
`n`, whatever the acknowledge (R10, 20_memory.md R52, R115). -/
def State.busRead (reg : Byte) (n : Nat) (s : State) : State :=
  (s.transact (.read s.cfg.devAddr reg (s.answer.data.toList.take n) s.answer.ok)).latchBusErr s.answer.ok

/-- `Emit(xs)` (R10). -/
def State.emit (xs : List Byte) (s : State) : State := { s with txq := xs }

/-- `REJ_CAUSE` after a rejection: the first cause since reset stays (60_exceptions.md R171). -/
def firstCause (old : BitVec 3) (cause : RejCause) : BitVec 3 := if old = 0#3 then cause.code else old

/-- `raise Reject(cause)`: the sticky bit, and the first cause only (60_exceptions.md R171). There is no handler and
no return (R177); only reset clears either. -/
def State.raiseReject (cause : RejCause) (s : State) : State :=
  { s with cmdRejected := true, rejCause := firstCause s.rejCause cause }

/-- What the checks of 60_exceptions.md R176 decide. -/
inductive Verdict
  | drop
  | reject (cause : RejCause)
  | perform
deriving DecidableEq, Repr

/-- The assigned opcodes (30_encoding.md R73). -/
def assignedOpcodes : List Byte :=
  [0x01#8, 0x02#8, 0x03#8, 0x10#8, 0x11#8, 0x12#8, 0x13#8, 0x14#8, 0x15#8, 0x16#8, 0x17#8, 0x1F#8]

/-- The checks of the acceptance step, in the order of 60_exceptions.md R176; the first that applies decides. -/
def verdict (op : Byte) (s : State) : Verdict :=
  if s.halted then .drop
  else if op ∉ assignedOpcodes then .reject .illegalOpcode
  else if s.msgOpen = true ∧ op ∉ [0x15#8, 0x16#8, 0x1F#8] then .reject .msgInProgress
  else if s.msgOpen = false ∧ op ∈ [0x15#8, 0x16#8] then .reject .noMsgOpen
  else if op = 0x01#8 ∧ s.initState ≠ InitState.idle.code then .reject .initState
  else if op = 0x02#8 ∧ s.initState ≠ InitState.configured.code then .reject .initState
  else .perform

/-- The acceptance step of a command with opcode `op` and the given effect: dropped (R178), rejected (R171) or
performed (R176). -/
def accept (op : Byte) (effect : State → State) (s : State) : Host.Outcome State Fault Refusal :=
  match verdict op s with
  | .drop => .next s
  | .reject cause => .next (s.raiseReject cause)
  | .perform => .next (effect s)

/-- The transport's step: with `tx_ready`, the head of `TXQ` leaves; otherwise nothing happens
(41_framing.md R132). -/
def State.transportStep (ready : Bool) (s : State) : State :=
  match ready, s.txq with
  | true, b :: rest => { s with txq := rest, out := s.out ++ [b] }
  | true, [] => s
  | false, _ => s

/-- A step with `rst` = 1: every element of the block to its reset value, and nothing else; the configuration, the
environment's lists and what was observed stay (70_reset_and_hazards.md R190; log 8). -/
def State.applyReset (s : State) : State :=
  { State.resetWith s.cfg with
    events := s.events, now := s.now, draws := s.draws, drawn := s.drawn, out := s.out, bus := s.bus }

end Sys2Proof.Machine
end

