-- ==== Sys2Proof/Machine/Framing.lean ====
section
/-! DEFINITION. The frame encoder commands (41_framing.md). Each meaning is the command's acceptance step, checks
included; it leaves the frame's bytes in `TXQ`. -/

namespace Sys2Proof.Machine

/-- DATA_START (R134). -/
def execDataStart (s : State) : Host.Outcome State Fault Refusal :=
  accept 0x10#8 (fun s => s.emit [tagDataStart]) s

/-- DATA_ELEMENT: a snapshot of the record (R135). -/
def execDataElement (s : State) : Host.Outcome State Fault Refusal :=
  accept 0x11#8 (fun s => s.emit (elementFrame s.cfg.recLittleEndian s.record)) s

/-- DATA_END (R136). -/
def execDataEnd (s : State) : Host.Outcome State Fault Refusal :=
  accept 0x12#8 (fun s => s.emit [tagDataEnd]) s

/-- HEARTBEAT (R137). -/
def execHeartbeat (s : State) : Host.Outcome State Fault Refusal :=
  accept 0x13#8 (fun s => s.emit [tagHeartbeat]) s

/-- MSG_OPEN (R138). -/
def execMsgOpen (s : State) : Host.Outcome State Fault Refusal :=
  accept 0x14#8 (fun s => { s.emit [tagMessage] with msgOpen := true }) s

/-- MSG_CHAR: the byte verbatim (R139). -/
def execMsgChar (byte : Byte) (s : State) : Host.Outcome State Fault Refusal :=
  accept 0x15#8 (fun s => s.emit [byte]) s

/-- MSG_CLOSE (R140). -/
def execMsgClose (ln : Bool) (s : State) : Host.Outcome State Fault Refusal :=
  accept 0x16#8 (fun s => { s.emit (messageEnd ln) with msgOpen := false }) s

/-- ERROR_CODE (R141). -/
def execErrorCode (byte : Byte) (s : State) : Host.Outcome State Fault Refusal :=
  accept 0x17#8 (fun s => s.emit (errorFrame byte)) s

/-- FATAL: an open message is closed, the fatal frames follow, and the block halts (R143, 60_exceptions.md R177). -/
def execFatal (s : State) : Host.Outcome State Fault Refusal :=
  accept 0x1F#8 (fun s => { s.emit (fatalEmission s.msgOpen) with msgOpen := false, halted := true }) s

end Sys2Proof.Machine
end

