-- ==== Sys2Proof/Machine/Sensor.lean ====
section
/-! DEFINITION. The sensor interface commands INIT, READ and LOAD_AUX (40_sensor_interface.md). Each meaning is the
command's acceptance step, checks included; the FSM steps that follow INIT are in Fsm. -/

namespace Sys2Proof.Machine

/-- INIT: IDLE to RESET_WR (R100). -/
def execInit (s : State) : Host.Outcome State Fault Refusal :=
  accept 0x01#8 (fun s => { s with initState := InitState.resetWr.code }) s

/-- READ's effect: one 14-byte burst, decoded into the six motion fields whatever the acknowledge (R110 to R112,
R115). -/
def burstRead (s : State) : State :=
  { s.busRead s.cfg.burstStartReg burstLen with record := s.record.withBurst s.answer.data }

/-- READ (R110). -/
def execRead (s : State) : Host.Outcome State Fault Refusal := accept 0x02#8 burstRead s

/-- LOAD_AUX (R113). -/
def execLoadAux (ts : Word) (an : Half) (b0 b1 : Byte) (s : State) : Host.Outcome State Fault Refusal :=
  accept 0x03#8 (fun s => { s with record := s.record.withAux ts an b0 b1 }) s

end Sys2Proof.Machine
end

