-- ==== Sys2Proof/Machine/Dispatch.lean ====
section
/-! DEFINITION. The acceptance step of every command, one arm per constructor of Instr. -/

namespace Sys2Proof.Machine

def exec (i : Instr) (s : State) : Host.Outcome State Fault Refusal :=
  match i with
  | .init => Sys2Proof.Machine.execInit s
  | .read => Sys2Proof.Machine.execRead s
  | .loadAux ts an b0 b1 => Sys2Proof.Machine.execLoadAux ts an b0 b1 s
  | .dataStart => Sys2Proof.Machine.execDataStart s
  | .dataElement => Sys2Proof.Machine.execDataElement s
  | .dataEnd => Sys2Proof.Machine.execDataEnd s
  | .heartbeat => Sys2Proof.Machine.execHeartbeat s
  | .msgOpen => Sys2Proof.Machine.execMsgOpen s
  | .msgChar byte => Sys2Proof.Machine.execMsgChar byte s
  | .msgClose ln => Sys2Proof.Machine.execMsgClose ln s
  | .errorCode byte => Sys2Proof.Machine.execErrorCode byte s
  | .fatal => Sys2Proof.Machine.execFatal s

end Sys2Proof.Machine
end

