-- ==== Sys2Proof/Machine/Fsm.lean ====
section
/-! DEFINITION. The steps of the initialization state machine (40_sensor_interface.md R101 to R106). -/

namespace Sys2Proof.Machine

/-- RESET_WR: the reset bit is written, and polling starts at count 0 (R101). -/
def fsmResetWr (s : State) : State :=
  { s.busWrite s.cfg.regPwr s.cfg.pwrResetValue with pollCount := 0#32, initState := InitState.poll.code }

/-- The state a poll leads to, from the drawn byte and the new count: the bit test comes before the limit test
(R102). -/
def afterPoll (p : Params) (b : Byte) (n : Word) : InitState :=
  if b &&& p.resetMask = 0#8 then .settle
  else if p.pollLimit ≠ 0#32 ∧ n.toNat ≥ p.pollLimit.toNat then .initTimeout
  else .poll

/-- POLL: one poll, counted with saturation (R102). The drawn byte is tested whatever the acknowledge (R115). -/
def fsmPoll (s : State) : State :=
  let b := s.answer.data[0]
  let n := sat32 (s.pollCount.toNat + 1)
  { s.busRead s.cfg.regResetStatus 1 with
    pollCount := n
    delay := if b &&& s.cfg.resetMask = 0#8 then s.cfg.tSettle else s.delay
    initState := (afterPoll s.cfg b n).code }

/-- One tick of a delay state, or its exit step (R103, R105). -/
def delayStep (exit : InitState) (s : State) : State :=
  if s.delay = 0#32 then { s with initState := exit.code } else { s with delay := s.delay - 1#32 }

/-- SETTLE (R103). -/
def fsmSettle (s : State) : State := delayStep .sprWr s

/-- SPR_WR: the signal paths are reset, and the second delay is loaded (R104). -/
def fsmSprWr (s : State) : State :=
  { s.busWrite s.cfg.regSpr s.cfg.sprValue with delay := s.cfg.tSpr, initState := InitState.sprDly.code }

/-- SPR_DLY (R105). -/
def fsmSprDly (s : State) : State := delayStep .clkWr s

/-- CLK_WR: sleep is cleared and the clock selected (R106). -/
def fsmClkWr (s : State) : State :=
  { s.busWrite s.cfg.regPwr s.cfg.pwrRunValue with initState := InitState.configured.code }

/-- The FSM step of the present state; none is enabled in IDLE, CONFIGURED and INIT_TIMEOUT (R107, R108, R117). -/
def fsmStep (s : State) : State :=
  match InitState.ofCode s.initState with
  | some .resetWr => fsmResetWr s
  | some .poll => fsmPoll s
  | some .settle => fsmSettle s
  | some .sprWr => fsmSprWr s
  | some .sprDly => fsmSprDly s
  | some .clkWr => fsmClkWr s
  | some .idle => s
  | some .configured => s
  | some .initTimeout => s
  | none => s

end Sys2Proof.Machine
end

