-- ==== Sys2Proof/Machine/Controller.lean ====
section
/-! DEFINITION. The controller's step (00_scope.md R6): an FSM step, a wait, or the acceptance of a command word;
and the presenting of a word for the host interface. -/

namespace Sys2Proof.Machine

/-- The acceptance of a word (60_exceptions.md R176): the decoded command's own step, or, for an unassigned opcode,
the same checks, which then reject or drop it (30_encoding.md R74). -/
def acceptWord (w : Command) (s : State) : Host.Outcome State Fault Refusal :=
  match decode w with
  | .ok i => exec i s
  | .error (.illegalOpcode op) => accept op id s

/-- The controller's turn. An enabled FSM step is taken, and depends on no input (R117); a presented word waits while
`BUSY` (10_state.md R39, 70_reset_and_hazards.md R195); an idle block waits for a word (60_exceptions.md R185). A wait
leaves the state as it is (log 6). -/
def controllerStep (cmd : Option Command) (s : State) : Host.Outcome State Fault Refusal :=
  if s.transient then .next (fsmStep s)
  else if s.txq ≠ [] then .next s
  else match cmd with
    | none => .next s
    | some w => acceptWord w s

/-- One turn of the controller or the transport, or a reset, after this step's choice `e` has been taken off. A state
that holds an unnamed code faults on any turn; a reset replaces it (93_implementation_defined.md U10; log 9). -/
def turn (e : Event) (s : State) : Host.Outcome State Fault Refusal :=
  match e with
  | .rst => .next s.applyReset
  | .controller cmd =>
    match s.unnamedCode with
    | some f => .fault f
    | none => controllerStep cmd s
  | .transport ready =>
    match s.unnamedCode with
    | some f => .fault f
    | none => .next (s.transportStep ready)

/-- The host presents `w` at the next step, on the controller's turn (log 12). -/
def State.present (w : Command) (s : State) : State :=
  { s with events := .controller (some w) :: s.events }

/-- The transport has accepted every pending byte; a state with an empty `TXQ` is unchanged (log 12). -/
def State.drained (s : State) : State := { s with txq := [], out := s.out ++ s.txq }

end Sys2Proof.Machine
end

