-- ==== Sys2Proof/Machine/Step.lean ====
section
/-! DEFINITION. The step of the machine, and the host interface's way to present one command word. -/

namespace Sys2Proof.Machine

/-- One step: a configuration that breaks 00_scope.md R8 is refused; otherwise the environment's choice for this step
is taken, and the agent it names has its turn (log 4). -/
def step (s : State) : Host.Outcome State Fault Refusal :=
  if s.cfg.wellFormed then turn s.event s.tick else .refused .badConfiguration

/-- `s` with the command word `w` presented at the very next step. The word is accepted only in a step with
`TXQ` empty, so pending bytes are taken as accepted first; a state with none is changed by the word alone
(10_state.md R39; log 12). Bits of `w` from `nbits` up are 0 (log 13). -/
def State.withFetchWord (s : State) (nbits w : Nat) : State :=
  s.drained.present (BitVec.ofNat 72 (w % 2 ^ nbits))

end Sys2Proof.Machine
end

