-- ==== Sys2Proof/Safety.lean ====
section
/-! DEFINITION. What counts as a safe state and a finished run, the environment's duties, and the terms of claims
about runs. -/

namespace Sys2Proof.Machine

/-- `n` steps lead from `s` to `t` with no fault and no refusal. -/
def Steps (n : Nat) (s t : State) : Prop := Host.Core.run Sys2Proof.core n s = .next t

/-- What the environment chooses `n` steps from now. -/
def State.eventAt (s : State) (n : Nat) : Event := s.events.getD n (Config.freeEvent (s.now + n))

/-- What the oracle answers to the transaction `n` transactions from now. -/
def State.drawAt (s : State) (n : Nat) : BusAnswer := s.draws.getD n (Config.freeDraw (s.drawn + n))

/-- The polled reset bit reads clear: every bit under `RESET_MASK` reads 0 (40_sensor_interface.md R102). -/
def readsClear (p : Params) (a : BusAnswer) : Bool := decide (a.data[0] &&& p.resetMask = 0#8)

/-- A state in which the next step stops by neither a refusal nor a fault: the configuration keeps 00_scope.md R8,
and both codes are named (93_implementation_defined.md U10). -/
def State.safe (s : State) : Bool := s.cfg.wellFormed && decide (s.unnamedCode = none)

/-- The invariant of the block. -/
structure Inv (s : State) : Prop where
  /-- The configuration keeps its constraints (R8). -/
  configured : s.cfg.wellFormed = true
  /-- Codes 9..15 and 5..7 are never produced (R23, R170). -/
  named : s.unnamedCode = none
  /-- At most one disjunct of `BUSY` is true (R33). -/
  exclusive : s.transient = true → s.txq = []
  /-- `TXQ` holds at most 21 bytes (R28). -/
  short : s.txq.length ≤ 21
  /-- A cause is recorded exactly when a command was rejected (R31). -/
  caused : s.cmdRejected = true ↔ s.rejCause ≠ 0#3
  /-- A halted block has no open message (R143). -/
  haltedClosed : s.halted = true → s.msgOpen = false
  /-- The FSM is not transient in a halted block (R178). -/
  haltedStable : s.halted = true → s.transient = false
  /-- No message is open while the FSM is transient (R100, R176). -/
  closedInit : s.transient = true → s.msgOpen = false
  /-- `DELAY` is within its load in the delay states and 0 elsewhere (R26, R103, R105). -/
  delaySettle : s.initState = InitState.settle.code → s.delay.toNat ≤ s.cfg.tSettle.toNat
  delaySpr : s.initState = InitState.sprDly.code → s.delay.toNat ≤ s.cfg.tSpr.toNat
  delayElse : s.initState ≠ InitState.settle.code → s.initState ≠ InitState.sprDly.code → s.delay = 0#32
  /-- A bounded poll has not reached its limit in POLL (R102). -/
  polling : s.initState = InitState.poll.code → s.cfg.pollLimit ≠ 0#32 →
    s.pollCount.toNat < s.cfg.pollLimit.toNat
  /-- INIT_TIMEOUT is reached only with a limit, at exactly that many polls (R108, R170). -/
  timeout : s.initState = InitState.initTimeout.code → s.cfg.pollLimit ≠ 0#32 ∧ s.pollCount = s.cfg.pollLimit

/-- The host presents no further command. -/
def NoFurtherCommand (s : State) : Prop := ∀ n w, s.eventAt n ≠ .controller (some w)

/-- A run is finished: `BUSY` = 0, `TXQ` is empty and no further command comes (60_exceptions.md R187). -/
def Finished (s : State) : Prop := s.busy = false ∧ s.txq = [] ∧ NoFurtherCommand s

/-- No reset comes in the next `n` steps. -/
def NoReset (n : Nat) (s : State) : Prop := ∀ j, j < n → s.eventAt j ≠ .rst

/-- An event is the controller's turn. -/
def isControllerTurn : Event → Bool
  | .controller _ => true
  | .rst => false
  | .transport _ => false

/-- How many of the next `n` turns are the controller's. -/
def controllerTurns (s : State) (n : Nat) : Nat :=
  ((List.range n).filter fun j => isControllerTurn (s.eventAt j)).length

/-- Weak fairness: the controller has its turn again and again (40_sensor_interface.md R117; log 19). -/
def ControllerFair (s : State) : Prop := ∀ n, ∃ m, n ≤ m ∧ ∃ c, s.eventAt m = .controller c

/-- The transport's duty: it accepts again and again (60_exceptions.md R186). -/
def TransportFair (s : State) : Prop := ∀ n, ∃ m, n ≤ m ∧ s.eventAt m = .transport true

/-- The host's duty: a word that waits is presented again at the controller's next turn (R186, R195). -/
def HostHoldsWord (s : State) : Prop :=
  ∀ n t w k c, Steps n s t → t.eventAt 0 = .controller (some w) → t.busy = true → 0 < k →
    (∀ j, 0 < j → j < k → ∀ d, t.eventAt j ≠ .controller d) → t.eventAt k = .controller c → c = some w

/-- The schedule that has one command accepted and then `n` bytes taken by the transport. -/
def serve (i : Instr) (n : Nat) : List Event := .controller (some (encode i)) :: List.replicate n (.transport true)

end Sys2Proof.Machine
end

