-- ==== Sys2Proof/Certificates/Slice0/Obligations.lean ====
section
/-! DEFINITION. The statements for the provers, from the numbered rules of the spec. -/

open Sys2Proof Sys2Proof.Machine

namespace Sys2Proof.Claims

/-- The state after this step's choice has been taken off the list; nothing else moves. -/
def ticked (s : State) : State := { s with events := s.events.tail, now := s.now + 1 }

/-- The effect of a rejection with cause code `c` (60_exceptions.md R171). -/
def rejected (c : BitVec 3) (s : State) : State :=
  { s with cmdRejected := true, rejCause := if s.rejCause = 0#3 then c else s.rejCause }

/-- The oracle's next answer. -/
def nextAnswer (s : State) : BusAnswer := s.draws.headD (Config.freeDraw s.drawn)

/-- A transaction made and its acknowledge latched (R172, R187). -/
def transacted (x : BusTransaction) (s : State) : State :=
  { s with draws := s.draws.tail, drawn := s.drawn + 1, bus := s.bus ++ [x],
           busErr := s.busErr || !(nextAnswer s).ok }

/-- The command needs a closed message: dropped when halted, rejected with cause 2 while a message is open, and
otherwise `effect`. -/
def ClosedCommand (i : Instr) (s effect : State) : Prop :=
  (s.halted = true → exec i s = .next s) ∧
  (s.halted = false → s.msgOpen = true → exec i s = .next (rejected 2#3 s)) ∧
  (s.halted = false → s.msgOpen = false → exec i s = .next effect)

/-- The command needs an open message: dropped when halted, rejected with cause 3 while none is open, and otherwise
`effect`. -/
def OpenCommand (i : Instr) (s effect : State) : Prop :=
  (s.halted = true → exec i s = .next s) ∧
  (s.halted = false → s.msgOpen = false → exec i s = .next (rejected 3#3 s)) ∧
  (s.halted = false → s.msgOpen = true → exec i s = .next effect)

/-- The command needs a closed message and the given initialization state (cause 4). -/
def SensorCommand (i : Instr) (code : BitVec 4) (s effect : State) : Prop :=
  (s.halted = true → exec i s = .next s) ∧
  (s.halted = false → s.msgOpen = true → exec i s = .next (rejected 2#3 s)) ∧
  (s.halted = false → s.msgOpen = false → s.initState ≠ code → exec i s = .next (rejected 4#3 s)) ∧
  (s.halted = false → s.msgOpen = false → s.initState = code → exec i s = .next effect)

/-- The unassigned opcodes of 30_encoding.md R74. -/
def Unassigned (op : Byte) : Prop :=
  op.toNat = 0 ∨ (0x04 ≤ op.toNat ∧ op.toNat ≤ 0x0F) ∨ (0x18 ≤ op.toNat ∧ op.toNat ≤ 0x1E) ∨ 0x20 ≤ op.toNat

/-- The controller accepts the word `w` at this step: the configuration and the codes are sound, the word is
presented, and `BUSY` = 0. -/
def Accepts (s : State) (w : Command) : Prop :=
  s.safe = true ∧ s.event = .controller (some w) ∧ s.busy = false

/-- The controller's turn in initialization state `code`, whatever the host presents. -/
def FsmTurn (s : State) (code : BitVec 4) : Prop :=
  s.safe = true ∧ (∃ cmd, s.event = .controller cmd) ∧ s.initState = code

/-- One byte of a field, little-endian index. -/
def byteOf {n : Nat} (v : BitVec n) (k : Nat) : Byte := v.extractLsb' (8 * k) 8

/-- The record's 20 bytes, least significant byte of each field first (20_memory.md R55). -/
def recordLittle (r : SampleRecord) : List Byte :=
  [byteOf r.timestamp 0, byteOf r.timestamp 1, byteOf r.timestamp 2, byteOf r.timestamp 3,
   byteOf r.analog 0, byteOf r.analog 1, r.button0, r.button1,
   byteOf r.accelX 0, byteOf r.accelX 1, byteOf r.accelY 0, byteOf r.accelY 1, byteOf r.accelZ 0, byteOf r.accelZ 1,
   byteOf r.gyroX 0, byteOf r.gyroX 1, byteOf r.gyroY 0, byteOf r.gyroY 1, byteOf r.gyroZ 0, byteOf r.gyroZ 1]

/-- The record's 20 bytes, most significant byte of each field first (R55). -/
def recordBig (r : SampleRecord) : List Byte :=
  [byteOf r.timestamp 3, byteOf r.timestamp 2, byteOf r.timestamp 1, byteOf r.timestamp 0,
   byteOf r.analog 1, byteOf r.analog 0, r.button0, r.button1,
   byteOf r.accelX 1, byteOf r.accelX 0, byteOf r.accelY 1, byteOf r.accelY 0, byteOf r.accelZ 1, byteOf r.accelZ 0,
   byteOf r.gyroX 1, byteOf r.gyroX 0, byteOf r.gyroY 1, byteOf r.gyroY 0, byteOf r.gyroZ 1, byteOf r.gyroZ 0]

/-- The DataElement frame of a state's record. -/
def element (s : State) : List Byte :=
  0x02#8 :: (if s.cfg.recLittleEndian then recordLittle s.record else recordBig s.record)

/-- One uppercase hexadecimal digit (41_framing.md R142). -/
def hex (d : BitVec 4) : Byte :=
  if d.toNat ≤ 9 then 0x30#8 + d.setWidth 8 else 0x41#8 + (d.setWidth 8 - 10#8)

/-- The Message "---ERROR---" with line semantics, then the ErrorMarker (R143). -/
def fatalBytes : List Byte :=
  [0x00#8, 0x2D#8, 0x2D#8, 0x2D#8, 0x45#8, 0x52#8, 0x52#8, 0x4F#8, 0x52#8, 0x2D#8, 0x2D#8, 0x2D#8, 0x0A#8, 0x00#8,
   0xFF#8]

/-- A transaction with its acknowledge erased; device, register, value and bytes stay. -/
def withoutAck : BusTransaction → BusTransaction
  | .write dev reg value _ => .write dev reg value true
  | .read dev reg bytes _ => .read dev reg bytes true

/-- A state with every acknowledge erased: the latched bit, and that of each observed transaction and of each listed
answer. -/
def blind (s : State) : State :=
  { s with
    busErr := false
    bus := s.bus.map withoutAck
    draws := s.draws.map fun a => { a with ok := true } }

/-- The word `{OP, ARG}` of two numbers (30_encoding.md R70). -/
def wordOf (op arg : Nat) : Command := BitVec.ofNat 72 (op * 2 ^ 64 + arg)

/-- The argument of format A as a number (R71). -/
def auxArg (ts an b0 b1 : Nat) : Nat := b1 * 2 ^ 56 + b0 * 2 ^ 48 + an * 2 ^ 32 + ts

/-- The operands fit the fields of format A. -/
def AuxFits (ts an b0 b1 : Nat) : Prop := ts < 2 ^ 32 ∧ an < 2 ^ 16 ∧ b0 < 2 ^ 8 ∧ b1 < 2 ^ 8

/-- Whether a transaction was acknowledged. -/
def acknowledged : BusTransaction → Bool
  | .write _ _ _ ok => ok
  | .read _ _ _ ok => ok

/-- A device-register read of one poll. -/
def pollOf (p : Params) (a : BusAnswer) : BusTransaction := .read p.devAddr p.regResetStatus [a.data[0]] a.ok

end Sys2Proof.Claims

open Sys2Proof.Claims

/-! ## Encoding -/

/-- One word of each command, written out from the spec's encodings (95_test_vectors.md 2.1, 30_encoding.md R71, R73,
R78), decodes to it; ignored bits are set in the words of READ, MSG_CHAR and MSG_CLOSE (R75), and two words have
unassigned opcodes (R74). -/
def Obligations.WrittenWordsDecode : Prop :=
  decode 0x010000000000000000#72 = .ok .init ∧
  decode 0x02DEADBEEFDEADBEEF#72 = .ok .read ∧
  decode 0x03000102000001E240#72 = .ok (.loadAux 123456#32 512#16 1#8 0#8) ∧
  decode 0x100000000000000000#72 = .ok .dataStart ∧
  decode 0x110000000000000000#72 = .ok .dataElement ∧
  decode 0x120000000000000000#72 = .ok .dataEnd ∧
  decode 0x130000000000000000#72 = .ok .heartbeat ∧
  decode 0x140000000000000000#72 = .ok .msgOpen ∧
  decode 0x150123456789ABCD41#72 = .ok (.msgChar 0x41#8) ∧
  decode 0x16FFFFFFFFFFFFFFFE#72 = .ok (.msgClose false) ∧
  decode 0x17000000000000000A#72 = .ok (.errorCode 0x0A#8) ∧
  decode 0x1F0000000000000000#72 = .ok .fatal ∧
  decode 0x000000000000000000#72 = .error (.illegalOpcode 0x00#8) ∧
  decode 0x20FFFFFFFFFFFFFFFF#72 = .error (.illegalOpcode 0x20#8)

/-- R72 and R73: the opcode in W[71:64] selects the command, and each operand is the unsigned field it names. -/
def Obligations.OpcodeMapAndOperandFields : Prop :=
  ∀ w : Command,
    (w.extractLsb' 64 8 = 0x01#8 → decode w = .ok .init) ∧
    (w.extractLsb' 64 8 = 0x02#8 → decode w = .ok .read) ∧
    (w.extractLsb' 64 8 = 0x03#8 → decode w =
      .ok (.loadAux (w.extractLsb' 0 32) (w.extractLsb' 32 16) (w.extractLsb' 48 8) (w.extractLsb' 56 8))) ∧
    (w.extractLsb' 64 8 = 0x10#8 → decode w = .ok .dataStart) ∧
    (w.extractLsb' 64 8 = 0x11#8 → decode w = .ok .dataElement) ∧
    (w.extractLsb' 64 8 = 0x12#8 → decode w = .ok .dataEnd) ∧
    (w.extractLsb' 64 8 = 0x13#8 → decode w = .ok .heartbeat) ∧
    (w.extractLsb' 64 8 = 0x14#8 → decode w = .ok .msgOpen) ∧
    (w.extractLsb' 64 8 = 0x15#8 → decode w = .ok (.msgChar (w.extractLsb' 0 8))) ∧
    (w.extractLsb' 64 8 = 0x16#8 → decode w = .ok (.msgClose (w.getLsbD 0))) ∧
    (w.extractLsb' 64 8 = 0x17#8 → decode w = .ok (.errorCode (w.extractLsb' 0 8))) ∧
    (w.extractLsb' 64 8 = 0x1F#8 → decode w = .ok .fatal)

/-- Decoding an encoded command gives it back, for every command at every operand value. -/
def Obligations.DecodeEncodeRoundTrip : Prop :=
  ∀ i : Instr, decode (encode i) = .ok i

/-- R75: a word is a command exactly when its meaningful bits are that command's word; the ignored bits may hold
anything. -/
def Obligations.IgnoredBitsDoNotMatter : Prop :=
  ∀ (w : Command) (i : Instr), decode w = .ok i ↔ w &&& i.careMask = encode i

/-- R74: exactly the listed opcodes are unassigned, and an accepted word with one of them is rejected with cause 1 and
has no other effect, unless the block is halted, when it is dropped. -/
def Obligations.UnassignedOpcodesRejected : Prop :=
  (∀ w : Command, Unassigned (w.extractLsb' 64 8) ↔ decode w = .error (.illegalOpcode (w.extractLsb' 64 8))) ∧
  ∀ (s : State) (w : Command), Accepts s w → Unassigned (w.extractLsb' 64 8) →
    step s = .next (if s.halted then ticked s else rejected 1#3 (ticked s))

/-- R78 and R79, written out: the words of every line of the assembler and of the three pseudo-commands, with every
ignored bit 0; every word decodes. That an operand too wide for its field, or a text code of 128 or more, gives a line
no words is the model's choice (logs 23 and 21). -/
def Obligations.AssembledLinesDecode : Prop :=
  (Line.init.assemble = some [wordOf 0x01 0] ∧ Line.read.assemble = some [wordOf 0x02 0] ∧
    Line.dataStart.assemble = some [wordOf 0x10 0] ∧ Line.dataElement.assemble = some [wordOf 0x11 0] ∧
    Line.dataEnd.assemble = some [wordOf 0x12 0] ∧ Line.heartbeat.assemble = some [wordOf 0x13 0] ∧
    Line.msgOpen.assemble = some [wordOf 0x14 0] ∧ Line.fatal.assemble = some [wordOf 0x1F 0]) ∧
  (∀ ts an b0 b1 : Nat,
    (AuxFits ts an b0 b1 →
      (Line.loadAux ts an b0 b1).assemble = some [wordOf 0x03 (auxArg ts an b0 b1)] ∧
      (Line.sample ts an b0 b1).assemble =
        some [wordOf 0x03 (auxArg ts an b0 b1), wordOf 0x02 0, wordOf 0x11 0]) ∧
    (¬ AuxFits ts an b0 b1 →
      (Line.loadAux ts an b0 b1).assemble = none ∧ (Line.sample ts an b0 b1).assemble = none)) ∧
  (∀ c : Nat,
    (c < 2 ^ 8 → (Line.msgChar c).assemble = some [wordOf 0x15 c] ∧
      (Line.errorCode c).assemble = some [wordOf 0x17 c]) ∧
    (2 ^ 8 ≤ c → (Line.msgChar c).assemble = none ∧ (Line.errorCode c).assemble = none) ∧
    (c < 2 → (Line.msgClose c).assemble = some [wordOf 0x16 c]) ∧
    (2 ≤ c → (Line.msgClose c).assemble = none)) ∧
  (∀ text : List Nat,
    ((∀ c, c ∈ text → c < 2 ^ 7) →
      (Line.message text).assemble =
        some ([wordOf 0x14 0] ++ text.map (wordOf 0x15) ++ [wordOf 0x16 0]) ∧
      (Line.messageLn text).assemble =
        some ([wordOf 0x14 0] ++ text.map (wordOf 0x15) ++ [wordOf 0x16 1])) ∧
    ((∃ c, c ∈ text ∧ 2 ^ 7 ≤ c) →
      (Line.message text).assemble = none ∧ (Line.messageLn text).assemble = none)) ∧
  ∀ (l : Line) (ws : List Command), l.assemble = some ws →
    ∃ is : List Instr, ws.map decode = is.map .ok ∧ is.map encode = ws

/-- R79: LOAD_AUX then READ, and READ then LOAD_AUX, lead to the same state from every state. -/
def Obligations.SampleOrderIrrelevant : Prop :=
  ∀ (s a a' b b' : State) (ts : Word) (an : Half) (b0 b1 : Byte),
    exec (.loadAux ts an b0 b1) s = .next a → exec .read a = .next a' →
    exec .read s = .next b → exec (.loadAux ts an b0 b1) b = .next b' → a' = b'

/-! ## The step, the configuration, reset -/

/-- When a presented word is accepted and decodes to a command, the step is that command's meaning, at the state with
only this step's choice taken off. -/
def Obligations.StepRunsDecodedCommand : Prop :=
  ∀ (s : State) (w : Command) (i : Instr), Accepts s w → decode w = .ok i → step s = exec i (ticked s)

/-- The host interface: the word placed by withFetchWord runs at the very next step, after pending bytes have been
taken (log 12). -/
def Obligations.PlacedWordRunsNext : Prop :=
  ∀ (s : State) (w : Nat) (i : Instr), s.safe = true → s.transient = false → decodeTableWord 72 w = some i →
    step (s.withFetchWord 72 w) = exec i { s with txq := [], out := s.out ++ s.txq, now := s.now + 1 }

/-- R39, R195: while `cmd_ready` = 0 a presented word has no effect: the step is the one taken with no word
presented. -/
def Obligations.WordWaitsWhileBusy : Prop :=
  ∀ (s : State) (w : Command) (es : List Event), s.cmdReady = false →
    step { s with events := .controller (some w) :: es } = step { s with events := .controller none :: es }

/-- R185: the controller's turn with a stable FSM, and with bytes waiting or no word presented, changes nothing of the
block; that such a turn is a step at all is the model's choice (log 6). -/
def Obligations.IdleTurnChangesNothing : Prop :=
  ∀ (s : State) (cmd : Option Command), s.safe = true → s.event = .controller cmd →
    s.initState = 0#4 ∨ s.initState = 7#4 ∨ s.initState = 8#4 → s.txq ≠ [] ∨ cmd = none →
      step s = .next (ticked s)

/-- R8: a configuration that breaks a constraint is refused, and one that keeps them never is. That every step is
refused, a reset included, is the model's choice (log 1), and so is the form of the bound on the delays (log 3). -/
def Obligations.BrokenConfigurationRefused : Prop :=
  (∀ s : State, (s.cfg.resetMask = 0#8 ∨ 0xFF < s.cfg.burstStartReg.toNat + 13) →
    step s = .refused .badConfiguration) ∧
  (∀ s : State, s.cfg.resetMask ≠ 0#8 → s.cfg.burstStartReg.toNat + 13 ≤ 0xFF → ∀ r, step s ≠ .refused r) ∧
  ∀ (p : Params) (tSettle tSpr : Nat),
    (2 ^ 32 ≤ tSettle ∨ 2 ^ 32 ≤ tSpr → p.withDelays tSettle tSpr = none) ∧
    (tSettle < 2 ^ 32 → tSpr < 2 ^ 32 → ∃ q, p.withDelays tSettle tSpr = some q ∧
      q = { p with tSettle := q.tSettle, tSpr := q.tSpr } ∧ q.tSettle.toNat = tSettle ∧ q.tSpr.toNat = tSpr)

/-- U10 asks for a fault if a model ever computes a code the spec never produces. That a state that holds one faults on
every turn but a reset, with the name of `INIT_STATE` first where both codes are unnamed, is the model's choice
(log 9). -/
def Obligations.UnnamedCodesFault : Prop :=
  ∀ s : State, s.cfg.wellFormed = true → s.event ≠ .rst →
    (9 ≤ s.initState.toNat → step s = .fault (.unnamedInitState s.initState)) ∧
    (s.initState.toNat ≤ 8 → 5 ≤ s.rejCause.toNat → step s = .fault (.unnamedRejCause s.rejCause))

/-- The parameters are no state of the block (10_state.md, head; log 1): no step changes them. -/
def Obligations.ConfigurationNeverChanges : Prop :=
  ∀ (n : Nat) (s t : State), Steps n s t → t.cfg = s.cfg

/-- R37: every element at its reset value, and the outputs after reset. -/
def Obligations.ResetValues : Prop :=
  State.reset.record = ⟨0#32, 0#16, 0#8, 0#8, 0#16, 0#16, 0#16, 0#16, 0#16, 0#16⟩ ∧
  State.reset.initState = 0#4 ∧ State.reset.delay = 0#32 ∧ State.reset.pollCount = 0#32 ∧ State.reset.txq = [] ∧
  State.reset.msgOpen = false ∧ State.reset.halted = false ∧ State.reset.cmdRejected = false ∧
  State.reset.rejCause = 0#3 ∧ State.reset.busErr = false ∧
  State.reset.status = 0x0000#16 ∧ State.reset.pollCountOut = 0#32 ∧ State.reset.cmdReady = true ∧
  State.reset.txValid = false

/-- R190: a step with `rst` = 1 sets every element to its reset value and does nothing else; and reset is the only way
out of CONFIGURED, INIT_TIMEOUT, HALTED and the initialization hang, and the only way to clear the error state. -/
def Obligations.ResetSetsEverythingAndIsTheOnlyWayOut : Prop :=
  (∀ s : State, s.cfg.wellFormed = true → s.event = .rst →
    step s = .next { ticked s with
      record := ⟨0#32, 0#16, 0#8, 0#8, 0#16, 0#16, 0#16, 0#16, 0#16, 0#16⟩, initState := 0#4, delay := 0#32,
      pollCount := 0#32, txq := [], msgOpen := false, halted := false, cmdRejected := false, rejCause := 0#3,
      busErr := false }) ∧
  ∀ s t : State, step s = .next t → s.event ≠ .rst →
    (s.initState = 7#4 → t.initState = 7#4) ∧ (s.initState = 8#4 → t.initState = 8#4) ∧
    (s.initState = 2#4 → s.cfg.pollLimit = 0#32 → readsClear s.cfg (nextAnswer s) = false → t.initState = 2#4) ∧
    (s.halted = true → t.halted = true) ∧ (s.cmdRejected = true → t.cmdRejected = true) ∧
    (s.rejCause ≠ 0#3 → t.rejCause = s.rejCause) ∧ (s.busErr = true → t.busErr = true)

/-- R176: the checks of an accepted word, in their order, and their effects (R171, R178). -/
def Obligations.AcceptanceChecksInOrder : Prop :=
  ∀ (s : State) (w : Command) (op : Byte), Accepts s w → op = w.extractLsb' 64 8 →
    (s.halted = true → step s = .next (ticked s)) ∧
    (s.halted = false →
      (Unassigned op → step s = .next (rejected 1#3 (ticked s))) ∧
      (¬ Unassigned op →
        (s.msgOpen = true → op ≠ 0x15#8 → op ≠ 0x16#8 → op ≠ 0x1F#8 → step s = .next (rejected 2#3 (ticked s))) ∧
        (s.msgOpen = false → op = 0x15#8 ∨ op = 0x16#8 → step s = .next (rejected 3#3 (ticked s))) ∧
        (s.msgOpen = false → op = 0x01#8 → s.initState ≠ 0#4 → step s = .next (rejected 4#3 (ticked s))) ∧
        (s.msgOpen = false → op = 0x02#8 → s.initState ≠ 7#4 → step s = .next (rejected 4#3 (ticked s))) ∧
        ((s.msgOpen = true → op = 0x15#8 ∨ op = 0x16#8 ∨ op = 0x1F#8) →
         (s.msgOpen = false → op ≠ 0x15#8 ∧ op ≠ 0x16#8) →
         (op = 0x01#8 → s.initState = 0#4) → (op = 0x02#8 → s.initState = 7#4) →
          ∃ i, decode w = .ok i ∧ i.opcode = op ∧ step s = exec i (ticked s))))

/-! ## Sensor interface -/

/-- R100: INIT moves IDLE to RESET_WR and changes nothing else; its rejections and its drop. -/
def Obligations.InitStartsTheSequence : Prop :=
  ∀ s : State, SensorCommand .init 0#4 s { s with initState := 1#4 }

/-- R110, R111, R112: one burst of 14 bytes from `BURST_START_REG`, decoded big-endian in the fixed order into the six
motion fields whatever the acknowledge, the temperature discarded, nothing else changed but `BUS_ERR`. -/
def Obligations.ReadFillsTheMotionFields : Prop :=
  ∀ (s : State) (b : Vector Byte 14) (ok : Bool), nextAnswer s = ⟨ok, b⟩ →
    SensorCommand .read 7#4 s
      { transacted (.read s.cfg.devAddr s.cfg.burstStartReg b.toList ok) s with
        record := { s.record with
          accelX := b[0] ++ b[1], accelY := b[2] ++ b[3], accelZ := b[4] ++ b[5],
          gyroX := b[8] ++ b[9], gyroY := b[10] ++ b[11], gyroZ := b[12] ++ b[13] } }

/-- R113: LOAD_AUX stores its four operands unchecked, in every initialization state, and changes nothing else. -/
def Obligations.LoadAuxStoresTheHostFields : Prop :=
  ∀ (s : State) (ts : Word) (an : Half) (b0 b1 : Byte),
    ClosedCommand (.loadAux ts an b0 b1) s
      { s with record := { s.record with timestamp := ts, analog := an, button0 := b0, button1 := b1 } }

/-- R101: the reset bit is written, the poll count is set to 0, and POLL follows whatever the acknowledge. -/
def Obligations.ResetWriteStep : Prop :=
  ∀ s : State, FsmTurn s 1#4 → step s = .next
    { transacted (.write s.cfg.devAddr s.cfg.regPwr s.cfg.pwrResetValue (nextAnswer s).ok) (ticked s) with
      pollCount := 0#32, initState := 2#4 }

/-- R102, the pseudocode: one poll, counted with saturation; the bit test comes before the limit test. -/
def Obligations.PollStep : Prop :=
  ∀ (s : State) (n : Word), FsmTurn s 2#4 → n.toNat = min (s.pollCount.toNat + 1) (2 ^ 32 - 1) →
    (readsClear s.cfg (nextAnswer s) = true → step s = .next
      { transacted (pollOf s.cfg (nextAnswer s)) (ticked s) with
        pollCount := n, delay := s.cfg.tSettle, initState := 3#4 }) ∧
    (readsClear s.cfg (nextAnswer s) = false → s.cfg.pollLimit ≠ 0#32 → s.cfg.pollLimit.toNat ≤ n.toNat →
      step s = .next
        { transacted (pollOf s.cfg (nextAnswer s)) (ticked s) with pollCount := n, initState := 8#4 }) ∧
    (readsClear s.cfg (nextAnswer s) = false → s.cfg.pollLimit = 0#32 ∨ n.toNat < s.cfg.pollLimit.toNat →
      step s = .next { transacted (pollOf s.cfg (nextAnswer s)) (ticked s) with pollCount := n })

/-- R103, R105: a delay state counts down by one a turn and leaves at 0, so that with the turns all the controller's
it lasts exactly its delay and one step. -/
def Obligations.DelayStatesLastExactly : Prop :=
  ∀ (code exit : BitVec 4), (code = 3#4 ∧ exit = 4#4) ∨ (code = 5#4 ∧ exit = 6#4) →
    ∀ s : State, s.safe = true → s.initState = code →
      (∀ cmd, s.event = .controller cmd → s.delay = 0#32 → step s = .next { ticked s with initState := exit }) ∧
      (∀ cmd, s.event = .controller cmd → s.delay ≠ 0#32 →
        step s = .next { ticked s with delay := s.delay - 1#32 }) ∧
      (controllerTurns s (s.delay.toNat + 1) = s.delay.toNat + 1 →
        (∃ t, Steps (s.delay.toNat + 1) s t ∧ t.initState = exit ∧ t.delay = 0#32) ∧
        ∀ j t, j ≤ s.delay.toNat → Steps j s t → t.initState = code)

/-- R104: the signal paths are reset, the second delay is loaded, and SPR_DLY follows. -/
def Obligations.SignalPathResetStep : Prop :=
  ∀ s : State, FsmTurn s 4#4 → step s = .next
    { transacted (.write s.cfg.devAddr s.cfg.regSpr s.cfg.sprValue (nextAnswer s).ok) (ticked s) with
      delay := s.cfg.tSpr, initState := 5#4 }

/-- R106: sleep is cleared and the clock selected, and CONFIGURED follows; if no byte is pending the block is then
ready. -/
def Obligations.ClockWriteStep : Prop :=
  ∀ s : State, FsmTurn s 6#4 → ∃ t, step s = .next t ∧ t =
    { transacted (.write s.cfg.devAddr s.cfg.regPwr s.cfg.pwrRunValue (nextAnswer s).ok) (ticked s) with
      initState := 7#4 } ∧ (s.txq = [] → t.busy = false ∧ t.cmdReady = true)

/-- R116: an INIT whose poll k is the first to read the bit clear takes exactly 6 + k + T_SETTLE + T_SPR controller
steps to CONFIGURED, one for the acceptance, 1 in RESET_WR, k in POLL, T_SETTLE + 1 in SETTLE, 1 in SPR_WR, T_SPR + 1
in SPR_DLY and 1 in CLK_WR, and makes exactly 3 + k transactions, in order; words presented meanwhile change nothing. -/
def Obligations.InitTakesExactSteps : Prop :=
  ∀ (s : State) (cs : List (Option Command)) (es : List Event) (a0 : BusAnswer) (polls : List BusAnswer)
    (p a1 a2 : BusAnswer) (ds : List BusAnswer) (k n : Nat),
    s.safe = true → s.initState = 0#4 → s.txq = [] → s.halted = false → s.msgOpen = false →
    k = polls.length + 1 → n = 6 + k + s.cfg.tSettle.toNat + s.cfg.tSpr.toNat → cs.length + 1 = n →
    s.events = .controller (some (encode .init)) :: cs.map Event.controller ++ es →
    s.draws = a0 :: polls ++ [p, a1, a2] ++ ds →
    (∀ a, a ∈ polls → readsClear s.cfg a = false) → readsClear s.cfg p = true →
    (s.cfg.pollLimit = 0#32 ∨ k ≤ s.cfg.pollLimit.toNat) →
    (∀ j u, j < n → Steps j s u → u.initState =
      if j = 0 then 0#4 else if j = 1 then 1#4 else if j < 2 + k then 2#4
      else if j < 3 + k + s.cfg.tSettle.toNat then 3#4 else if j = 3 + k + s.cfg.tSettle.toNat then 4#4
      else if j < 5 + k + s.cfg.tSettle.toNat + s.cfg.tSpr.toNat then 5#4 else 6#4) ∧
    ∃ t, Steps n s t ∧ t.initState = 7#4 ∧ t.pollCount.toNat = min k (2 ^ 32 - 1) ∧ t.busy = false ∧
      t.bus = s.bus ++ [.write s.cfg.devAddr s.cfg.regPwr s.cfg.pwrResetValue a0.ok] ++
        polls.map (pollOf s.cfg) ++ [pollOf s.cfg p] ++
        [.write s.cfg.devAddr s.cfg.regSpr s.cfg.sprValue a1.ok,
         .write s.cfg.devAddr s.cfg.regPwr s.cfg.pwrRunValue a2.ok] ∧
      t.events = es ∧ t.draws = ds ∧ t.record = s.record ∧ t.out = s.out ∧ t.txq = []

/-- R109: with unbounded polling and a device whose bit never reads clear, the block stays in POLL and busy for every
number of steps, whatever is presented; no command is accepted and no byte is emitted. -/
def Obligations.NeverClearingDeviceHangs : Prop :=
  ∀ (n : Nat) (s : State), s.safe = true → s.initState = 2#4 → s.txq = [] → s.cfg.pollLimit = 0#32 → NoReset n s →
    (∀ j, j < n → readsClear s.cfg (s.drawAt j) = false) →
    ∃ t, Steps n s t ∧ t.initState = 2#4 ∧ t.busy = true ∧ t.cmdReady = false ∧ t.txq = [] ∧ t.out = s.out ∧
      t.record = s.record ∧ t.halted = s.halted ∧ t.msgOpen = s.msgOpen ∧ t.cmdRejected = s.cmdRejected ∧
      t.rejCause = s.rejCause

/-- R102, R108, R170: with `POLL_LIMIT` = L > 0 and L polls that all read the bit set, INIT_TIMEOUT follows exactly L
polls after the count was set to 0, with `poll_count` = L. -/
def Obligations.BoundedPollTimesOut : Prop :=
  ∀ (s : State) (l : Nat), s.safe = true → s.initState = 2#4 → s.pollCount = 0#32 → s.txq = [] →
    s.cfg.pollLimit.toNat = l → 0 < l → controllerTurns s l = l →
    (∀ j, j < l → readsClear s.cfg (s.drawAt j) = false) →
    (∀ j u, j < l → Steps j s u → u.initState = 2#4 ∧ u.pollCount.toNat = j) ∧
    ∃ t, Steps l s t ∧ t.initState = 8#4 ∧ t.pollCountOut = s.cfg.pollLimit ∧ t.busy = false ∧
      t.busErr = (s.busErr || (List.range l).any fun j => !(s.drawAt j).ok)

/-- R117, R206, bounded: whatever the turns in between, an initialization whose device reads the bit clear in the
answer k transactions after the next one, 0 < k, ends within k + 5 + T_SETTLE + T_SPR of the controller's turns. -/
def Obligations.InitEndsWithinABound : Prop :=
  ∀ (s : State) (n k : Nat), Inv s → s.transient = true → NoReset n s → 0 < k →
    readsClear s.cfg (s.drawAt k) = true →
    k + 5 + s.cfg.tSettle.toNat + s.cfg.tSpr.toNat ≤ controllerTurns s n →
    ∃ t, Steps n s t ∧ (t.initState = 7#4 ∨ t.initState = 8#4)

/-! ## Frame encoder -/

/-- R134. -/
def Obligations.DataStartEmitsItsTag : Prop :=
  ∀ s : State, ClosedCommand .dataStart s { s with txq := [0x01#8] }

/-- R135, R55: the tag and the 20 bytes of the record as it stands at the acceptance; nothing else changes. -/
def Obligations.DataElementEmitsTheRecord : Prop :=
  ∀ s : State, ClosedCommand .dataElement s { s with txq := element s }

/-- R136. -/
def Obligations.DataEndEmitsItsTag : Prop :=
  ∀ s : State, ClosedCommand .dataEnd s { s with txq := [0x03#8] }

/-- R137. -/
def Obligations.HeartbeatEmitsItsTag : Prop :=
  ∀ s : State, ClosedCommand .heartbeat s { s with txq := [0xFA#8] }

/-- R138. -/
def Obligations.MsgOpenEmitsTheTagAndOpens : Prop :=
  ∀ s : State, ClosedCommand .msgOpen s { s with txq := [0x00#8], msgOpen := true }

/-- R139: every byte verbatim. -/
def Obligations.MsgCharEmitsTheByte : Prop :=
  ∀ (s : State) (c : Byte), OpenCommand (.msgChar c) s { s with txq := [c] }

/-- R140, R131: an optional line feed, then the terminator, and the message is closed. -/
def Obligations.MsgCloseTerminatesTheMessage : Prop :=
  ∀ (s : State) (ln : Bool),
    OpenCommand (.msgClose ln) s { s with txq := if ln then [0x0A#8, 0x00#8] else [0x00#8], msgOpen := false }

/-- R141, R142: one complete Message frame of 15 bytes with two uppercase digits, the high nibble first. -/
def Obligations.ErrorCodeEmitsOneMessage : Prop :=
  ∀ (s : State) (c : Byte), ClosedCommand (.errorCode c) s
    { s with txq := [0x00#8, 0x20#8, 0x20#8, 0x45#8, 0x72#8, 0x72#8, 0x6F#8, 0x72#8, 0x3A#8, 0x20#8, 0x30#8, 0x78#8,
      hex (c.extractLsb' 4 4), hex (c.extractLsb' 0 4), 0x00#8] }

/-- R143: with `BUSY` = 0, so in every stable initialization state, FATAL closes an open message, emits the fatal frames
and halts; a halted block drops it. -/
def Obligations.FatalEmitsItsFramesAndHalts : Prop :=
  ∀ s : State, s.busy = false →
    (s.halted = true → exec .fatal s = .next s) ∧
    (s.halted = false → exec .fatal s = .next
      { s with txq := if s.msgOpen then 0x00#8 :: fatalBytes else fatalBytes, msgOpen := false, halted := true })

/-- R132, R38: a byte leaves exactly in a transport's turn with `tx_ready` = 1 and a byte waiting, and waits otherwise;
`tx_valid` says whether one waits, and while one waits the block is busy. R6 and R132 give the transport a step only
when a byte is accepted: that its turn with `tx_ready` = 0, or with no byte waiting, is a step at all is the model's
choice (log 6). -/
def Obligations.TransportTakesOneByte : Prop :=
  ∀ s : State,
    (s.txValid = true ↔ s.txq ≠ []) ∧
    (s.txq ≠ [] → s.busy = true) ∧
    (∀ t, step s = .next t → t.out ≠ s.out → s.event = .transport true ∧ s.txq ≠ []) ∧
    (s.safe = true →
      (∀ b rest, s.event = .transport true → s.txq = b :: rest →
        s.txData = b ∧ step s = .next { ticked s with txq := rest, out := s.out ++ [b] }) ∧
      (s.event = .transport false → step s = .next (ticked s)) ∧
      (∀ ready, s.event = .transport ready → s.txq = [] → step s = .next (ticked s)))

/-- R60, R132: no byte is dropped, reordered or duplicated: along any run without a reset, what has left and what still
waits only grows at its end. -/
def Obligations.StreamOnlyGrows : Prop :=
  ∀ (n : Nat) (s t : State), Steps n s t → NoReset n s →
    ∃ xs, t.out ++ t.txq = s.out ++ s.txq ++ xs ∧ ∃ ys, t.out = s.out ++ ys

/-- R60: while bytes wait, no command is accepted, no bus transaction is made and nothing of the block changes but the
place of the bytes. -/
def Obligations.FramesAndTransactionsDoNotOverlap : Prop :=
  ∀ s t : State, step s = .next t → Inv s → s.event ≠ .rst → s.txq ≠ [] →
    t = { ticked s with txq := t.txq, out := t.out } ∧ t.out ++ t.txq = s.out ++ s.txq

/-- R144: N samples between DATA_START and DATA_END give exactly 01, N DataElement frames and 03 on the stream, in any
stable initialization state. -/
def Obligations.BatchOfSamplesOnTheStream : Prop :=
  ∀ (s : State) (n : Nat) (es : List Event),
    s.safe = true → s.transient = false → s.txq = [] → s.halted = false → s.msgOpen = false →
    s.events = serve .dataStart 1 ++ (List.replicate n (serve .dataElement 21)).flatten ++ serve .dataEnd 1 ++ es →
    ∃ t, Steps (22 * n + 4) s t ∧
      t.out = s.out ++ [0x01#8] ++ (List.replicate n (element s)).flatten ++ [0x03#8] ∧
      t.txq = [] ∧ t.record = s.record ∧ t.bus = s.bus ∧ t.events = es

/-- R130, R138 to R140, R79: a message of any text puts its tag, the text verbatim, an optional line feed and the
terminator on the stream. -/
def Obligations.MessageOnTheStream : Prop :=
  ∀ (s : State) (text : List Byte) (ln : Bool) (es : List Event),
    s.safe = true → s.transient = false → s.txq = [] → s.halted = false → s.msgOpen = false →
    s.events = serve .msgOpen 1 ++ (text.map fun c => serve (.msgChar c) 1).flatten ++
      serve (.msgClose ln) (if ln then 2 else 1) ++ es →
    ∃ t, Steps (2 * text.length + (if ln then 5 else 4)) s t ∧
      t.out = s.out ++ [0x00#8] ++ text ++ (if ln then [0x0A#8, 0x00#8] else [0x00#8]) ∧
      t.txq = [] ∧ t.msgOpen = false ∧ t.record = s.record ∧ t.bus = s.bus ∧ t.events = es

/-- E1: a receiver with the same layout and byte order gets every field back: the record's 20 bytes determine it. -/
def Obligations.RecordBytesDetermineTheRecord : Prop :=
  ∀ (little : Bool) (r r' : SampleRecord),
    (recBytes little r).length = 20 ∧ (recBytes little r = recBytes little r' → r = r')

/-! ## Errors and the whole machine -/

/-- R178: a halted block stays halted, makes no bus transaction, puts nothing new on the stream and changes no state,
for any number of steps and whatever is presented; it is ready once its bytes have left, and it never stops. -/
def Obligations.HaltedBlockStaysSilent : Prop :=
  ∀ (n : Nat) (s : State), s.safe = true → s.halted = true → s.transient = false → NoReset n s →
    (s.busy = false → s.cmdReady = true) ∧
    ∃ t, Steps n s t ∧ t.out ++ t.txq = s.out ++ s.txq ∧
      t = { s with txq := t.txq, out := t.out, events := t.events, now := t.now }

/-- R32, R172: `BUS_ERR` is set by a failed transaction and by nothing else, no command clears it, and reset does. -/
def Obligations.BusErrorLatches : Prop :=
  State.reset.busErr = false ∧
  ∀ s t : State, step s = .next t →
    (s.event = .rst → t.busErr = false ∧ t.bus = s.bus) ∧
    (s.event ≠ .rst → ∃ xs, t.bus = s.bus ++ xs ∧ xs.length ≤ 1 ∧
      t.busErr = (s.busErr || xs.any fun x => !acknowledged x))

/-- R115, R172: nothing but `BUS_ERR` depends on any acknowledge: two runs that differ only in acknowledges stay equal
in everything else, the transactions included. -/
def Obligations.AcknowledgesDecideNothingElse : Prop :=
  ∀ (n : Nat) (s s' t : State), blind s = blind s' → Steps n s t → ∃ t', Steps n s' t' ∧ blind t' = blind t

/-- R51: the three device writes, each in its FSM state with its register and value; a read is one poll of one byte or
one burst of fourteen. -/
def Obligations.BusTransactionsOfAStep : Prop :=
  ∀ (s t : State) (x : BusTransaction), step s = .next t → t.bus = s.bus ++ [x] →
    (s.initState = 1#4 ∧ ∃ ok, x = .write s.cfg.devAddr s.cfg.regPwr s.cfg.pwrResetValue ok) ∨
    (s.initState = 4#4 ∧ ∃ ok, x = .write s.cfg.devAddr s.cfg.regSpr s.cfg.sprValue ok) ∨
    (s.initState = 6#4 ∧ ∃ ok, x = .write s.cfg.devAddr s.cfg.regPwr s.cfg.pwrRunValue ok) ∨
    (s.initState = 2#4 ∧ ∃ b ok, x = .read s.cfg.devAddr s.cfg.regResetStatus [b] ok) ∨
    (s.initState = 7#4 ∧ (∃ w, s.event = .controller (some w) ∧ decode w = .ok .read) ∧
      ∃ bs ok, bs.length = 14 ∧ x = .read s.cfg.devAddr s.cfg.burstStartReg bs ok)

/-- R22: only an accepted READ or LOAD_AUX writes the record, or a reset; READ leaves the host's fields and LOAD_AUX
the motion fields. -/
def Obligations.RecordWriters : Prop :=
  ∀ s t : State, step s = .next t → s.event ≠ .rst → t.record ≠ s.record →
    s.halted = false ∧ s.busy = false ∧ ∃ w, s.event = .controller (some w) ∧
      ((decode w = .ok .read ∧ s.initState = 7#4 ∧ t.record = { t.record with
          timestamp := s.record.timestamp, analog := s.record.analog, button0 := s.record.button0,
          button1 := s.record.button1 }) ∨
       (∃ ts an b0 b1, decode w = .ok (.loadAux ts an b0 b1) ∧ t.record = { s.record with
          timestamp := ts, analog := an, button0 := b0, button1 := b1 }))

/-- R24: only INIT, from IDLE to RESET_WR, and the controller's FSM steps write `INIT_STATE`; reset sets it to IDLE;
nothing else leaves CONFIGURED or INIT_TIMEOUT. -/
def Obligations.InitStateWriters : Prop :=
  ∀ s t : State, step s = .next t →
    (s.event = .rst → t.initState = 0#4) ∧
    (s.event ≠ .rst → t.initState ≠ s.initState →
      (s.initState = 0#4 ∧ t.initState = 1#4 ∧ ∃ w, s.event = .controller (some w) ∧ decode w = .ok .init) ∨
      ((∃ cmd, s.event = .controller cmd) ∧
        ((s.initState = 1#4 ∧ t.initState = 2#4) ∨ (s.initState = 2#4 ∧ (t.initState = 3#4 ∨ t.initState = 8#4)) ∨
         (s.initState = 3#4 ∧ t.initState = 4#4) ∨ (s.initState = 4#4 ∧ t.initState = 5#4) ∨
         (s.initState = 5#4 ∧ t.initState = 6#4) ∨ (s.initState = 6#4 ∧ t.initState = 7#4))))

/-- R177: fail-stop is entered only by an accepted FATAL, whose entry emits the fatal frames, clears `MSG_OPEN`, sets
`HALTED` and changes no other state. -/
def Obligations.FailStopOnlyByFatal : Prop :=
  ∀ s t : State, step s = .next t → s.halted = false → t.halted = true →
    s.busy = false ∧ (∃ w, s.event = .controller (some w) ∧ decode w = .ok .fatal) ∧
    t = { ticked s with
      txq := if s.msgOpen then 0x00#8 :: fatalBytes else fatalBytes, msgOpen := false, halted := true }

/-- R171, R31: a step that changes `CMD_REJECTED` or `REJ_CAUSE`, but for a reset, is a rejection of an accepted word
with one of the four causes, it was the first since reset, and the state after it is the state before it with these two
fields changed. -/
def Obligations.RejectionIsPrecise : Prop :=
  ∀ s t : State, Inv s → step s = .next t → s.event ≠ .rst →
    t.cmdRejected ≠ s.cmdRejected ∨ t.rejCause ≠ s.rejCause →
      s.halted = false ∧ s.busy = false ∧ (∃ w, s.event = .controller (some w)) ∧
      s.cmdRejected = false ∧ s.rejCause = 0#3 ∧
      ∃ c : BitVec 3, 1 ≤ c.toNat ∧ c.toNat ≤ 4 ∧ t = { ticked s with cmdRejected := true, rejCause := c }

/-- R29: `MSG_OPEN` becomes 1 only by an accepted MSG_OPEN, and becomes 0 only by an accepted MSG_CLOSE or FATAL, or a
reset. -/
def Obligations.MsgOpenWriters : Prop :=
  ∀ s t : State, step s = .next t → t.msgOpen ≠ s.msgOpen →
    (t.msgOpen = true → s.busy = false ∧ ∃ w, s.event = .controller (some w) ∧ decode w = .ok .msgOpen) ∧
    (t.msgOpen = false → s.event = .rst ∨ (s.busy = false ∧ ∃ w, s.event = .controller (some w) ∧
      ((∃ ln, decode w = .ok (.msgClose ln)) ∨ decode w = .ok .fatal)))

/-- What each command leaves unchanged, whenever its acceptance leads to a next state: performed, rejected or
dropped. -/
def Obligations.CommandFrame : Prop :=
  ∀ (i : Instr) (s t : State), exec i s = .next t →
    (t.cfg = s.cfg ∧ t.delay = s.delay ∧ t.pollCount = s.pollCount ∧ t.out = s.out ∧ t.events = s.events ∧
      t.now = s.now) ∧
    (i ≠ .init → t.initState = s.initState) ∧
    (i ≠ .read → t.busErr = s.busErr ∧ t.bus = s.bus ∧ t.draws = s.draws ∧ t.drawn = s.drawn) ∧
    (i ≠ .read → (∀ ts an b0 b1, i ≠ .loadAux ts an b0 b1) → t.record = s.record) ∧
    ((i = .init ∨ i = .read ∨ ∃ ts an b0 b1, i = .loadAux ts an b0 b1) → t.txq = s.txq) ∧
    (i ≠ .fatal → t.halted = s.halted) ∧
    (i ≠ .fatal → i ≠ .msgOpen → (∀ ln, i ≠ .msgClose ln) → t.msgOpen = s.msgOpen)

/-! ## Outputs and invariants -/

/-- R34, R36: the fields of the `status` output; bits [15:12] read 0 in every state; after reset it is 0. -/
def Obligations.StatusFields : Prop :=
  State.reset.status = 0x0000#16 ∧ ∀ s : State,
    s.status.extractLsb' 0 4 = s.initState ∧ s.status.getLsbD 4 = s.busy ∧ s.status.getLsbD 5 = s.halted ∧
    s.status.getLsbD 6 = s.msgOpen ∧ s.status.getLsbD 7 = s.cmdRejected ∧
    s.status.extractLsb' 8 3 = s.rejCause ∧ s.status.getLsbD 11 = s.busErr ∧ s.status.extractLsb' 12 4 = 0#4

/-- R33: `BUSY` is a transient FSM or a waiting byte, and in a state of the invariant at most one of the two. -/
def Obligations.BusyIsTransientOrPending : Prop :=
  ∀ s : State,
    (s.busy = true ↔ (s.initState = 1#4 ∨ s.initState = 2#4 ∨ s.initState = 3#4 ∨ s.initState = 4#4 ∨
      s.initState = 5#4 ∨ s.initState = 6#4) ∨ s.txq ≠ []) ∧
    (Inv s → ¬ ((s.initState = 1#4 ∨ s.initState = 2#4 ∨ s.initState = 3#4 ∨ s.initState = 4#4 ∨
      s.initState = 5#4 ∨ s.initState = 6#4) ∧ s.txq ≠ []))

/-- The invariant holds right after reset, at every configuration that keeps R8, and after a reset of any block, with any
environment listed and anything observed before. -/
def Obligations.ResetMeetsTheInvariant : Prop :=
  Inv State.reset ∧ (∀ p : Params, p.wellFormed = true → Inv (State.resetWith p)) ∧
  ∀ s : State, s.cfg.wellFormed = true → Inv s.applyReset

/-- Every step keeps the invariant. -/
def Obligations.EveryStepKeepsTheInvariant : Prop :=
  ∀ s t : State, Inv s → step s = .next t → Inv t

/-- From a state of the invariant no run of any length stops: no step is refused and none faults (R173, U10). -/
def Obligations.NoRunStops : Prop :=
  ∀ (n : Nat) (s : State), Inv s → ∃ t, Steps n s t ∧ Inv t
end

