-- ==== Sys2Proof/Laws/Encode.lean ====
section
/-! SUPPORT. The bits of an encoded command: its opcode above, its argument below, and the operand fields. -/

namespace Sys2Proof

/-- `OP` of a word that was put together from an opcode and an argument. -/
@[simp] theorem op_encode (i : Instr) : Command.op (encode i) = i.opcode :=
  BitVec.extractLsb'_append_eq_left

/-- `ARG` of such a word. -/
theorem getLsbD_encode (i : Instr) {j : Nat} (h : j < 64) : (encode i).getLsbD j = i.arg.getLsbD j := by
  unfold encode
  rw [BitVec.getLsbD_append (m := 64) (n := 8)]
  simp [h]

/-- A field of `ARG` read from such a word. -/
theorem extract_encode (i : Instr) {a n : Nat} (h : a + n ≤ 64) :
    (encode i).extractLsb' a n = i.arg.extractLsb' a n := by
  ext j hj
  simp only [BitVec.getElem_extractLsb']
  exact getLsbD_encode i (by omega)

/-- The four fields of format A (30_encoding.md R71). -/
theorem arg_loadAux (ts : Word) (an : Half) (b0 b1 : Byte) :
    (Instr.loadAux ts an b0 b1).arg.extractLsb' 0 32 = ts ∧ (Instr.loadAux ts an b0 b1).arg.extractLsb' 32 16 = an ∧
    (Instr.loadAux ts an b0 b1).arg.extractLsb' 48 8 = b0 ∧ (Instr.loadAux ts an b0 b1).arg.extractLsb' 56 8 = b1 := by
  refine ⟨?_, ?_, ?_, ?_⟩ <;> ext j hj <;>
    simp only [Instr.arg, BitVec.getElem_extractLsb'] <;>
    rw [BitVec.getLsbD_append (m := 32) (n := 32)]
  · simp [hj]
  all_goals rw [BitVec.getLsbD_append (m := 16) (n := 16)]
  · simp [hj]
  all_goals rw [BitVec.getLsbD_append (m := 8) (n := 8)]
  · rw [if_neg (by omega), if_neg (by omega), if_pos (by omega), ← BitVec.getLsbD_eq_getElem]; congr 1; omega
  · rw [if_neg (by omega), if_neg (by omega), if_neg (by omega), ← BitVec.getLsbD_eq_getElem]; congr 1; omega

/-- The low bits of an operand put under zeros. -/
theorem extract_zero_append {m n : Nat} (x : BitVec n) : ((0#m ++ x).extractLsb' 0 n) = x :=
  BitVec.extractLsb'_append_eq_right

end Sys2Proof
end

