-- ==== Sys2Proof/Laws/State.lean ====
section
/-! SUPPORT. One lemma per field and named update of State, each true by unfolding. -/

namespace Sys2Proof.Machine

variable (s : State)

@[simp] theorem State.tick_record : (s.tick).record = s.record := rfl
@[simp] theorem State.tick_initState : (s.tick).initState = s.initState := rfl
@[simp] theorem State.tick_delay : (s.tick).delay = s.delay := rfl
@[simp] theorem State.tick_pollCount : (s.tick).pollCount = s.pollCount := rfl
@[simp] theorem State.tick_txq : (s.tick).txq = s.txq := rfl
@[simp] theorem State.tick_msgOpen : (s.tick).msgOpen = s.msgOpen := rfl
@[simp] theorem State.tick_halted : (s.tick).halted = s.halted := rfl
@[simp] theorem State.tick_cmdRejected : (s.tick).cmdRejected = s.cmdRejected := rfl
@[simp] theorem State.tick_rejCause : (s.tick).rejCause = s.rejCause := rfl
@[simp] theorem State.tick_busErr : (s.tick).busErr = s.busErr := rfl
@[simp] theorem State.tick_cfg : (s.tick).cfg = s.cfg := rfl
@[simp] theorem State.tick_events : (s.tick).events = s.events.tail := rfl
@[simp] theorem State.tick_now : (s.tick).now = s.now + 1 := rfl
@[simp] theorem State.tick_draws : (s.tick).draws = s.draws := rfl
@[simp] theorem State.tick_drawn : (s.tick).drawn = s.drawn := rfl
@[simp] theorem State.tick_out : (s.tick).out = s.out := rfl
@[simp] theorem State.tick_bus : (s.tick).bus = s.bus := rfl

@[simp] theorem State.transact_record (x : BusTransaction) : (s.transact x).record = s.record := rfl
@[simp] theorem State.transact_initState (x : BusTransaction) : (s.transact x).initState = s.initState := rfl
@[simp] theorem State.transact_delay (x : BusTransaction) : (s.transact x).delay = s.delay := rfl
@[simp] theorem State.transact_pollCount (x : BusTransaction) : (s.transact x).pollCount = s.pollCount := rfl
@[simp] theorem State.transact_txq (x : BusTransaction) : (s.transact x).txq = s.txq := rfl
@[simp] theorem State.transact_msgOpen (x : BusTransaction) : (s.transact x).msgOpen = s.msgOpen := rfl
@[simp] theorem State.transact_halted (x : BusTransaction) : (s.transact x).halted = s.halted := rfl
@[simp] theorem State.transact_cmdRejected (x : BusTransaction) : (s.transact x).cmdRejected = s.cmdRejected := rfl
@[simp] theorem State.transact_rejCause (x : BusTransaction) : (s.transact x).rejCause = s.rejCause := rfl
@[simp] theorem State.transact_busErr (x : BusTransaction) : (s.transact x).busErr = s.busErr := rfl
@[simp] theorem State.transact_cfg (x : BusTransaction) : (s.transact x).cfg = s.cfg := rfl
@[simp] theorem State.transact_events (x : BusTransaction) : (s.transact x).events = s.events := rfl
@[simp] theorem State.transact_now (x : BusTransaction) : (s.transact x).now = s.now := rfl
@[simp] theorem State.transact_draws (x : BusTransaction) : (s.transact x).draws = s.draws.tail := rfl
@[simp] theorem State.transact_drawn (x : BusTransaction) : (s.transact x).drawn = s.drawn + 1 := rfl
@[simp] theorem State.transact_out (x : BusTransaction) : (s.transact x).out = s.out := rfl
@[simp] theorem State.transact_bus (x : BusTransaction) : (s.transact x).bus = s.bus ++ [x] := rfl

@[simp] theorem State.latchBusErr_record (ok : Bool) : (s.latchBusErr ok).record = s.record := rfl
@[simp] theorem State.latchBusErr_initState (ok : Bool) : (s.latchBusErr ok).initState = s.initState := rfl
@[simp] theorem State.latchBusErr_delay (ok : Bool) : (s.latchBusErr ok).delay = s.delay := rfl
@[simp] theorem State.latchBusErr_pollCount (ok : Bool) : (s.latchBusErr ok).pollCount = s.pollCount := rfl
@[simp] theorem State.latchBusErr_txq (ok : Bool) : (s.latchBusErr ok).txq = s.txq := rfl
@[simp] theorem State.latchBusErr_msgOpen (ok : Bool) : (s.latchBusErr ok).msgOpen = s.msgOpen := rfl
@[simp] theorem State.latchBusErr_halted (ok : Bool) : (s.latchBusErr ok).halted = s.halted := rfl
@[simp] theorem State.latchBusErr_cmdRejected (ok : Bool) : (s.latchBusErr ok).cmdRejected = s.cmdRejected := rfl
@[simp] theorem State.latchBusErr_rejCause (ok : Bool) : (s.latchBusErr ok).rejCause = s.rejCause := rfl
@[simp] theorem State.latchBusErr_busErr (ok : Bool) : (s.latchBusErr ok).busErr = (s.busErr || !ok) := rfl
@[simp] theorem State.latchBusErr_cfg (ok : Bool) : (s.latchBusErr ok).cfg = s.cfg := rfl
@[simp] theorem State.latchBusErr_events (ok : Bool) : (s.latchBusErr ok).events = s.events := rfl
@[simp] theorem State.latchBusErr_now (ok : Bool) : (s.latchBusErr ok).now = s.now := rfl
@[simp] theorem State.latchBusErr_draws (ok : Bool) : (s.latchBusErr ok).draws = s.draws := rfl
@[simp] theorem State.latchBusErr_drawn (ok : Bool) : (s.latchBusErr ok).drawn = s.drawn := rfl
@[simp] theorem State.latchBusErr_out (ok : Bool) : (s.latchBusErr ok).out = s.out := rfl
@[simp] theorem State.latchBusErr_bus (ok : Bool) : (s.latchBusErr ok).bus = s.bus := rfl

@[simp] theorem State.busWrite_record (reg v : Byte) : (s.busWrite reg v).record = s.record := rfl
@[simp] theorem State.busWrite_initState (reg v : Byte) : (s.busWrite reg v).initState = s.initState := rfl
@[simp] theorem State.busWrite_delay (reg v : Byte) : (s.busWrite reg v).delay = s.delay := rfl
@[simp] theorem State.busWrite_pollCount (reg v : Byte) : (s.busWrite reg v).pollCount = s.pollCount := rfl
@[simp] theorem State.busWrite_txq (reg v : Byte) : (s.busWrite reg v).txq = s.txq := rfl
@[simp] theorem State.busWrite_msgOpen (reg v : Byte) : (s.busWrite reg v).msgOpen = s.msgOpen := rfl
@[simp] theorem State.busWrite_halted (reg v : Byte) : (s.busWrite reg v).halted = s.halted := rfl
@[simp] theorem State.busWrite_cmdRejected (reg v : Byte) : (s.busWrite reg v).cmdRejected = s.cmdRejected := rfl
@[simp] theorem State.busWrite_rejCause (reg v : Byte) : (s.busWrite reg v).rejCause = s.rejCause := rfl
@[simp] theorem State.busWrite_busErr (reg v : Byte) : (s.busWrite reg v).busErr = (s.busErr || !s.answer.ok) := rfl
@[simp] theorem State.busWrite_cfg (reg v : Byte) : (s.busWrite reg v).cfg = s.cfg := rfl
@[simp] theorem State.busWrite_events (reg v : Byte) : (s.busWrite reg v).events = s.events := rfl
@[simp] theorem State.busWrite_now (reg v : Byte) : (s.busWrite reg v).now = s.now := rfl
@[simp] theorem State.busWrite_draws (reg v : Byte) : (s.busWrite reg v).draws = s.draws.tail := rfl
@[simp] theorem State.busWrite_drawn (reg v : Byte) : (s.busWrite reg v).drawn = s.drawn + 1 := rfl
@[simp] theorem State.busWrite_out (reg v : Byte) : (s.busWrite reg v).out = s.out := rfl
@[simp] theorem State.busWrite_bus (reg v : Byte) : (s.busWrite reg v).bus = s.bus ++ [.write s.cfg.devAddr reg v s.answer.ok] := rfl

@[simp] theorem State.busRead_record (reg : Byte) (n : Nat) : (s.busRead reg n).record = s.record := rfl
@[simp] theorem State.busRead_initState (reg : Byte) (n : Nat) : (s.busRead reg n).initState = s.initState := rfl
@[simp] theorem State.busRead_delay (reg : Byte) (n : Nat) : (s.busRead reg n).delay = s.delay := rfl
@[simp] theorem State.busRead_pollCount (reg : Byte) (n : Nat) : (s.busRead reg n).pollCount = s.pollCount := rfl
@[simp] theorem State.busRead_txq (reg : Byte) (n : Nat) : (s.busRead reg n).txq = s.txq := rfl
@[simp] theorem State.busRead_msgOpen (reg : Byte) (n : Nat) : (s.busRead reg n).msgOpen = s.msgOpen := rfl
@[simp] theorem State.busRead_halted (reg : Byte) (n : Nat) : (s.busRead reg n).halted = s.halted := rfl
@[simp] theorem State.busRead_cmdRejected (reg : Byte) (n : Nat) : (s.busRead reg n).cmdRejected = s.cmdRejected := rfl
@[simp] theorem State.busRead_rejCause (reg : Byte) (n : Nat) : (s.busRead reg n).rejCause = s.rejCause := rfl
@[simp] theorem State.busRead_busErr (reg : Byte) (n : Nat) : (s.busRead reg n).busErr = (s.busErr || !s.answer.ok) := rfl
@[simp] theorem State.busRead_cfg (reg : Byte) (n : Nat) : (s.busRead reg n).cfg = s.cfg := rfl
@[simp] theorem State.busRead_events (reg : Byte) (n : Nat) : (s.busRead reg n).events = s.events := rfl
@[simp] theorem State.busRead_now (reg : Byte) (n : Nat) : (s.busRead reg n).now = s.now := rfl
@[simp] theorem State.busRead_draws (reg : Byte) (n : Nat) : (s.busRead reg n).draws = s.draws.tail := rfl
@[simp] theorem State.busRead_drawn (reg : Byte) (n : Nat) : (s.busRead reg n).drawn = s.drawn + 1 := rfl
@[simp] theorem State.busRead_out (reg : Byte) (n : Nat) : (s.busRead reg n).out = s.out := rfl
@[simp] theorem State.busRead_bus (reg : Byte) (n : Nat) : (s.busRead reg n).bus = s.bus ++ [.read s.cfg.devAddr reg (s.answer.data.toList.take n) s.answer.ok] := rfl

@[simp] theorem State.emit_record (xs : List Byte) : (s.emit xs).record = s.record := rfl
@[simp] theorem State.emit_initState (xs : List Byte) : (s.emit xs).initState = s.initState := rfl
@[simp] theorem State.emit_delay (xs : List Byte) : (s.emit xs).delay = s.delay := rfl
@[simp] theorem State.emit_pollCount (xs : List Byte) : (s.emit xs).pollCount = s.pollCount := rfl
@[simp] theorem State.emit_txq (xs : List Byte) : (s.emit xs).txq = xs := rfl
@[simp] theorem State.emit_msgOpen (xs : List Byte) : (s.emit xs).msgOpen = s.msgOpen := rfl
@[simp] theorem State.emit_halted (xs : List Byte) : (s.emit xs).halted = s.halted := rfl
@[simp] theorem State.emit_cmdRejected (xs : List Byte) : (s.emit xs).cmdRejected = s.cmdRejected := rfl
@[simp] theorem State.emit_rejCause (xs : List Byte) : (s.emit xs).rejCause = s.rejCause := rfl
@[simp] theorem State.emit_busErr (xs : List Byte) : (s.emit xs).busErr = s.busErr := rfl
@[simp] theorem State.emit_cfg (xs : List Byte) : (s.emit xs).cfg = s.cfg := rfl
@[simp] theorem State.emit_events (xs : List Byte) : (s.emit xs).events = s.events := rfl
@[simp] theorem State.emit_now (xs : List Byte) : (s.emit xs).now = s.now := rfl
@[simp] theorem State.emit_draws (xs : List Byte) : (s.emit xs).draws = s.draws := rfl
@[simp] theorem State.emit_drawn (xs : List Byte) : (s.emit xs).drawn = s.drawn := rfl
@[simp] theorem State.emit_out (xs : List Byte) : (s.emit xs).out = s.out := rfl
@[simp] theorem State.emit_bus (xs : List Byte) : (s.emit xs).bus = s.bus := rfl

@[simp] theorem State.raiseReject_record (c : RejCause) : (s.raiseReject c).record = s.record := rfl
@[simp] theorem State.raiseReject_initState (c : RejCause) : (s.raiseReject c).initState = s.initState := rfl
@[simp] theorem State.raiseReject_delay (c : RejCause) : (s.raiseReject c).delay = s.delay := rfl
@[simp] theorem State.raiseReject_pollCount (c : RejCause) : (s.raiseReject c).pollCount = s.pollCount := rfl
@[simp] theorem State.raiseReject_txq (c : RejCause) : (s.raiseReject c).txq = s.txq := rfl
@[simp] theorem State.raiseReject_msgOpen (c : RejCause) : (s.raiseReject c).msgOpen = s.msgOpen := rfl
@[simp] theorem State.raiseReject_halted (c : RejCause) : (s.raiseReject c).halted = s.halted := rfl
@[simp] theorem State.raiseReject_cmdRejected (c : RejCause) : (s.raiseReject c).cmdRejected = true := rfl
@[simp] theorem State.raiseReject_rejCause (c : RejCause) : (s.raiseReject c).rejCause = firstCause s.rejCause c := rfl
@[simp] theorem State.raiseReject_busErr (c : RejCause) : (s.raiseReject c).busErr = s.busErr := rfl
@[simp] theorem State.raiseReject_cfg (c : RejCause) : (s.raiseReject c).cfg = s.cfg := rfl
@[simp] theorem State.raiseReject_events (c : RejCause) : (s.raiseReject c).events = s.events := rfl
@[simp] theorem State.raiseReject_now (c : RejCause) : (s.raiseReject c).now = s.now := rfl
@[simp] theorem State.raiseReject_draws (c : RejCause) : (s.raiseReject c).draws = s.draws := rfl
@[simp] theorem State.raiseReject_drawn (c : RejCause) : (s.raiseReject c).drawn = s.drawn := rfl
@[simp] theorem State.raiseReject_out (c : RejCause) : (s.raiseReject c).out = s.out := rfl
@[simp] theorem State.raiseReject_bus (c : RejCause) : (s.raiseReject c).bus = s.bus := rfl

@[simp] theorem State.applyReset_record : (s.applyReset).record = SampleRecord.reset := rfl
@[simp] theorem State.applyReset_initState : (s.applyReset).initState = 0#4 := rfl
@[simp] theorem State.applyReset_delay : (s.applyReset).delay = 0#32 := rfl
@[simp] theorem State.applyReset_pollCount : (s.applyReset).pollCount = 0#32 := rfl
@[simp] theorem State.applyReset_txq : (s.applyReset).txq = [] := rfl
@[simp] theorem State.applyReset_msgOpen : (s.applyReset).msgOpen = false := rfl
@[simp] theorem State.applyReset_halted : (s.applyReset).halted = false := rfl
@[simp] theorem State.applyReset_cmdRejected : (s.applyReset).cmdRejected = false := rfl
@[simp] theorem State.applyReset_rejCause : (s.applyReset).rejCause = 0#3 := rfl
@[simp] theorem State.applyReset_busErr : (s.applyReset).busErr = false := rfl
@[simp] theorem State.applyReset_cfg : (s.applyReset).cfg = s.cfg := rfl
@[simp] theorem State.applyReset_events : (s.applyReset).events = s.events := rfl
@[simp] theorem State.applyReset_now : (s.applyReset).now = s.now := rfl
@[simp] theorem State.applyReset_draws : (s.applyReset).draws = s.draws := rfl
@[simp] theorem State.applyReset_drawn : (s.applyReset).drawn = s.drawn := rfl
@[simp] theorem State.applyReset_out : (s.applyReset).out = s.out := rfl
@[simp] theorem State.applyReset_bus : (s.applyReset).bus = s.bus := rfl

@[simp] theorem State.present_record (w : Command) : (s.present w).record = s.record := rfl
@[simp] theorem State.present_initState (w : Command) : (s.present w).initState = s.initState := rfl
@[simp] theorem State.present_delay (w : Command) : (s.present w).delay = s.delay := rfl
@[simp] theorem State.present_pollCount (w : Command) : (s.present w).pollCount = s.pollCount := rfl
@[simp] theorem State.present_txq (w : Command) : (s.present w).txq = s.txq := rfl
@[simp] theorem State.present_msgOpen (w : Command) : (s.present w).msgOpen = s.msgOpen := rfl
@[simp] theorem State.present_halted (w : Command) : (s.present w).halted = s.halted := rfl
@[simp] theorem State.present_cmdRejected (w : Command) : (s.present w).cmdRejected = s.cmdRejected := rfl
@[simp] theorem State.present_rejCause (w : Command) : (s.present w).rejCause = s.rejCause := rfl
@[simp] theorem State.present_busErr (w : Command) : (s.present w).busErr = s.busErr := rfl
@[simp] theorem State.present_cfg (w : Command) : (s.present w).cfg = s.cfg := rfl
@[simp] theorem State.present_events (w : Command) : (s.present w).events = .controller (some w) :: s.events := rfl
@[simp] theorem State.present_now (w : Command) : (s.present w).now = s.now := rfl
@[simp] theorem State.present_draws (w : Command) : (s.present w).draws = s.draws := rfl
@[simp] theorem State.present_drawn (w : Command) : (s.present w).drawn = s.drawn := rfl
@[simp] theorem State.present_out (w : Command) : (s.present w).out = s.out := rfl
@[simp] theorem State.present_bus (w : Command) : (s.present w).bus = s.bus := rfl

@[simp] theorem State.drained_record : (s.drained).record = s.record := rfl
@[simp] theorem State.drained_initState : (s.drained).initState = s.initState := rfl
@[simp] theorem State.drained_delay : (s.drained).delay = s.delay := rfl
@[simp] theorem State.drained_pollCount : (s.drained).pollCount = s.pollCount := rfl
@[simp] theorem State.drained_txq : (s.drained).txq = [] := rfl
@[simp] theorem State.drained_msgOpen : (s.drained).msgOpen = s.msgOpen := rfl
@[simp] theorem State.drained_halted : (s.drained).halted = s.halted := rfl
@[simp] theorem State.drained_cmdRejected : (s.drained).cmdRejected = s.cmdRejected := rfl
@[simp] theorem State.drained_rejCause : (s.drained).rejCause = s.rejCause := rfl
@[simp] theorem State.drained_busErr : (s.drained).busErr = s.busErr := rfl
@[simp] theorem State.drained_cfg : (s.drained).cfg = s.cfg := rfl
@[simp] theorem State.drained_events : (s.drained).events = s.events := rfl
@[simp] theorem State.drained_now : (s.drained).now = s.now := rfl
@[simp] theorem State.drained_draws : (s.drained).draws = s.draws := rfl
@[simp] theorem State.drained_drawn : (s.drained).drawn = s.drawn := rfl
@[simp] theorem State.drained_out : (s.drained).out = s.out ++ s.txq := rfl
@[simp] theorem State.drained_bus : (s.drained).bus = s.bus := rfl

end Sys2Proof.Machine
end

