-- ==== Sys2Proof/Laws/Fsm.lean ====
section
/-! SUPPORT. One lemma per field of each FSM step and of READ's effect. -/

namespace Sys2Proof.Machine

variable (s : State)

@[simp] theorem fsmResetWr_record : (fsmResetWr s).record = s.record := rfl
@[simp] theorem fsmResetWr_initState : (fsmResetWr s).initState = InitState.poll.code := rfl
@[simp] theorem fsmResetWr_delay : (fsmResetWr s).delay = s.delay := rfl
@[simp] theorem fsmResetWr_pollCount : (fsmResetWr s).pollCount = 0#32 := rfl
@[simp] theorem fsmResetWr_txq : (fsmResetWr s).txq = s.txq := rfl
@[simp] theorem fsmResetWr_msgOpen : (fsmResetWr s).msgOpen = s.msgOpen := rfl
@[simp] theorem fsmResetWr_halted : (fsmResetWr s).halted = s.halted := rfl
@[simp] theorem fsmResetWr_cmdRejected : (fsmResetWr s).cmdRejected = s.cmdRejected := rfl
@[simp] theorem fsmResetWr_rejCause : (fsmResetWr s).rejCause = s.rejCause := rfl
@[simp] theorem fsmResetWr_busErr : (fsmResetWr s).busErr = (s.busErr || !s.answer.ok) := rfl
@[simp] theorem fsmResetWr_cfg : (fsmResetWr s).cfg = s.cfg := rfl
@[simp] theorem fsmResetWr_events : (fsmResetWr s).events = s.events := rfl
@[simp] theorem fsmResetWr_now : (fsmResetWr s).now = s.now := rfl
@[simp] theorem fsmResetWr_draws : (fsmResetWr s).draws = s.draws.tail := rfl
@[simp] theorem fsmResetWr_drawn : (fsmResetWr s).drawn = s.drawn + 1 := rfl
@[simp] theorem fsmResetWr_out : (fsmResetWr s).out = s.out := rfl
@[simp] theorem fsmResetWr_bus : (fsmResetWr s).bus = s.bus ++ [.write s.cfg.devAddr s.cfg.regPwr s.cfg.pwrResetValue s.answer.ok] := rfl

@[simp] theorem fsmPoll_record : (fsmPoll s).record = s.record := rfl
@[simp] theorem fsmPoll_initState : (fsmPoll s).initState = (afterPoll s.cfg s.answer.data[0] (sat32 (s.pollCount.toNat + 1))).code := rfl
@[simp] theorem fsmPoll_delay : (fsmPoll s).delay = if s.answer.data[0] &&& s.cfg.resetMask = 0#8 then s.cfg.tSettle else s.delay := rfl
@[simp] theorem fsmPoll_pollCount : (fsmPoll s).pollCount = sat32 (s.pollCount.toNat + 1) := rfl
@[simp] theorem fsmPoll_txq : (fsmPoll s).txq = s.txq := rfl
@[simp] theorem fsmPoll_msgOpen : (fsmPoll s).msgOpen = s.msgOpen := rfl
@[simp] theorem fsmPoll_halted : (fsmPoll s).halted = s.halted := rfl
@[simp] theorem fsmPoll_cmdRejected : (fsmPoll s).cmdRejected = s.cmdRejected := rfl
@[simp] theorem fsmPoll_rejCause : (fsmPoll s).rejCause = s.rejCause := rfl
@[simp] theorem fsmPoll_busErr : (fsmPoll s).busErr = (s.busErr || !s.answer.ok) := rfl
@[simp] theorem fsmPoll_cfg : (fsmPoll s).cfg = s.cfg := rfl
@[simp] theorem fsmPoll_events : (fsmPoll s).events = s.events := rfl
@[simp] theorem fsmPoll_now : (fsmPoll s).now = s.now := rfl
@[simp] theorem fsmPoll_draws : (fsmPoll s).draws = s.draws.tail := rfl
@[simp] theorem fsmPoll_drawn : (fsmPoll s).drawn = s.drawn + 1 := rfl
@[simp] theorem fsmPoll_out : (fsmPoll s).out = s.out := rfl
@[simp] theorem fsmPoll_bus : (fsmPoll s).bus = s.bus ++ [.read s.cfg.devAddr s.cfg.regResetStatus (s.answer.data.toList.take 1) s.answer.ok] := rfl

@[simp] theorem delayStep_record (exit : InitState) : (delayStep exit s).record = s.record := by
  unfold delayStep; split <;> rfl
@[simp] theorem delayStep_initState (exit : InitState) : (delayStep exit s).initState = if s.delay = 0#32 then exit.code else s.initState := by
  unfold delayStep; split <;> rfl
@[simp] theorem delayStep_delay (exit : InitState) : (delayStep exit s).delay = if s.delay = 0#32 then s.delay else s.delay - 1#32 := by
  unfold delayStep; split <;> rfl
@[simp] theorem delayStep_pollCount (exit : InitState) : (delayStep exit s).pollCount = s.pollCount := by
  unfold delayStep; split <;> rfl
@[simp] theorem delayStep_txq (exit : InitState) : (delayStep exit s).txq = s.txq := by
  unfold delayStep; split <;> rfl
@[simp] theorem delayStep_msgOpen (exit : InitState) : (delayStep exit s).msgOpen = s.msgOpen := by
  unfold delayStep; split <;> rfl
@[simp] theorem delayStep_halted (exit : InitState) : (delayStep exit s).halted = s.halted := by
  unfold delayStep; split <;> rfl
@[simp] theorem delayStep_cmdRejected (exit : InitState) : (delayStep exit s).cmdRejected = s.cmdRejected := by
  unfold delayStep; split <;> rfl
@[simp] theorem delayStep_rejCause (exit : InitState) : (delayStep exit s).rejCause = s.rejCause := by
  unfold delayStep; split <;> rfl
@[simp] theorem delayStep_busErr (exit : InitState) : (delayStep exit s).busErr = s.busErr := by
  unfold delayStep; split <;> rfl
@[simp] theorem delayStep_cfg (exit : InitState) : (delayStep exit s).cfg = s.cfg := by
  unfold delayStep; split <;> rfl
@[simp] theorem delayStep_events (exit : InitState) : (delayStep exit s).events = s.events := by
  unfold delayStep; split <;> rfl
@[simp] theorem delayStep_now (exit : InitState) : (delayStep exit s).now = s.now := by
  unfold delayStep; split <;> rfl
@[simp] theorem delayStep_draws (exit : InitState) : (delayStep exit s).draws = s.draws := by
  unfold delayStep; split <;> rfl
@[simp] theorem delayStep_drawn (exit : InitState) : (delayStep exit s).drawn = s.drawn := by
  unfold delayStep; split <;> rfl
@[simp] theorem delayStep_out (exit : InitState) : (delayStep exit s).out = s.out := by
  unfold delayStep; split <;> rfl
@[simp] theorem delayStep_bus (exit : InitState) : (delayStep exit s).bus = s.bus := by
  unfold delayStep; split <;> rfl

@[simp] theorem fsmSettle_record : (fsmSettle s).record = s.record := delayStep_record s _
@[simp] theorem fsmSettle_initState : (fsmSettle s).initState = if s.delay = 0#32 then InitState.sprWr.code else s.initState := delayStep_initState s _
@[simp] theorem fsmSettle_delay : (fsmSettle s).delay = if s.delay = 0#32 then s.delay else s.delay - 1#32 := delayStep_delay s _
@[simp] theorem fsmSettle_pollCount : (fsmSettle s).pollCount = s.pollCount := delayStep_pollCount s _
@[simp] theorem fsmSettle_txq : (fsmSettle s).txq = s.txq := delayStep_txq s _
@[simp] theorem fsmSettle_msgOpen : (fsmSettle s).msgOpen = s.msgOpen := delayStep_msgOpen s _
@[simp] theorem fsmSettle_halted : (fsmSettle s).halted = s.halted := delayStep_halted s _
@[simp] theorem fsmSettle_cmdRejected : (fsmSettle s).cmdRejected = s.cmdRejected := delayStep_cmdRejected s _
@[simp] theorem fsmSettle_rejCause : (fsmSettle s).rejCause = s.rejCause := delayStep_rejCause s _
@[simp] theorem fsmSettle_busErr : (fsmSettle s).busErr = s.busErr := delayStep_busErr s _
@[simp] theorem fsmSettle_cfg : (fsmSettle s).cfg = s.cfg := delayStep_cfg s _
@[simp] theorem fsmSettle_events : (fsmSettle s).events = s.events := delayStep_events s _
@[simp] theorem fsmSettle_now : (fsmSettle s).now = s.now := delayStep_now s _
@[simp] theorem fsmSettle_draws : (fsmSettle s).draws = s.draws := delayStep_draws s _
@[simp] theorem fsmSettle_drawn : (fsmSettle s).drawn = s.drawn := delayStep_drawn s _
@[simp] theorem fsmSettle_out : (fsmSettle s).out = s.out := delayStep_out s _
@[simp] theorem fsmSettle_bus : (fsmSettle s).bus = s.bus := delayStep_bus s _

@[simp] theorem fsmSprWr_record : (fsmSprWr s).record = s.record := rfl
@[simp] theorem fsmSprWr_initState : (fsmSprWr s).initState = InitState.sprDly.code := rfl
@[simp] theorem fsmSprWr_delay : (fsmSprWr s).delay = s.cfg.tSpr := rfl
@[simp] theorem fsmSprWr_pollCount : (fsmSprWr s).pollCount = s.pollCount := rfl
@[simp] theorem fsmSprWr_txq : (fsmSprWr s).txq = s.txq := rfl
@[simp] theorem fsmSprWr_msgOpen : (fsmSprWr s).msgOpen = s.msgOpen := rfl
@[simp] theorem fsmSprWr_halted : (fsmSprWr s).halted = s.halted := rfl
@[simp] theorem fsmSprWr_cmdRejected : (fsmSprWr s).cmdRejected = s.cmdRejected := rfl
@[simp] theorem fsmSprWr_rejCause : (fsmSprWr s).rejCause = s.rejCause := rfl
@[simp] theorem fsmSprWr_busErr : (fsmSprWr s).busErr = (s.busErr || !s.answer.ok) := rfl
@[simp] theorem fsmSprWr_cfg : (fsmSprWr s).cfg = s.cfg := rfl
@[simp] theorem fsmSprWr_events : (fsmSprWr s).events = s.events := rfl
@[simp] theorem fsmSprWr_now : (fsmSprWr s).now = s.now := rfl
@[simp] theorem fsmSprWr_draws : (fsmSprWr s).draws = s.draws.tail := rfl
@[simp] theorem fsmSprWr_drawn : (fsmSprWr s).drawn = s.drawn + 1 := rfl
@[simp] theorem fsmSprWr_out : (fsmSprWr s).out = s.out := rfl
@[simp] theorem fsmSprWr_bus : (fsmSprWr s).bus = s.bus ++ [.write s.cfg.devAddr s.cfg.regSpr s.cfg.sprValue s.answer.ok] := rfl

@[simp] theorem fsmSprDly_record : (fsmSprDly s).record = s.record := delayStep_record s _
@[simp] theorem fsmSprDly_initState : (fsmSprDly s).initState = if s.delay = 0#32 then InitState.clkWr.code else s.initState := delayStep_initState s _
@[simp] theorem fsmSprDly_delay : (fsmSprDly s).delay = if s.delay = 0#32 then s.delay else s.delay - 1#32 := delayStep_delay s _
@[simp] theorem fsmSprDly_pollCount : (fsmSprDly s).pollCount = s.pollCount := delayStep_pollCount s _
@[simp] theorem fsmSprDly_txq : (fsmSprDly s).txq = s.txq := delayStep_txq s _
@[simp] theorem fsmSprDly_msgOpen : (fsmSprDly s).msgOpen = s.msgOpen := delayStep_msgOpen s _
@[simp] theorem fsmSprDly_halted : (fsmSprDly s).halted = s.halted := delayStep_halted s _
@[simp] theorem fsmSprDly_cmdRejected : (fsmSprDly s).cmdRejected = s.cmdRejected := delayStep_cmdRejected s _
@[simp] theorem fsmSprDly_rejCause : (fsmSprDly s).rejCause = s.rejCause := delayStep_rejCause s _
@[simp] theorem fsmSprDly_busErr : (fsmSprDly s).busErr = s.busErr := delayStep_busErr s _
@[simp] theorem fsmSprDly_cfg : (fsmSprDly s).cfg = s.cfg := delayStep_cfg s _
@[simp] theorem fsmSprDly_events : (fsmSprDly s).events = s.events := delayStep_events s _
@[simp] theorem fsmSprDly_now : (fsmSprDly s).now = s.now := delayStep_now s _
@[simp] theorem fsmSprDly_draws : (fsmSprDly s).draws = s.draws := delayStep_draws s _
@[simp] theorem fsmSprDly_drawn : (fsmSprDly s).drawn = s.drawn := delayStep_drawn s _
@[simp] theorem fsmSprDly_out : (fsmSprDly s).out = s.out := delayStep_out s _
@[simp] theorem fsmSprDly_bus : (fsmSprDly s).bus = s.bus := delayStep_bus s _

@[simp] theorem fsmClkWr_record : (fsmClkWr s).record = s.record := rfl
@[simp] theorem fsmClkWr_initState : (fsmClkWr s).initState = InitState.configured.code := rfl
@[simp] theorem fsmClkWr_delay : (fsmClkWr s).delay = s.delay := rfl
@[simp] theorem fsmClkWr_pollCount : (fsmClkWr s).pollCount = s.pollCount := rfl
@[simp] theorem fsmClkWr_txq : (fsmClkWr s).txq = s.txq := rfl
@[simp] theorem fsmClkWr_msgOpen : (fsmClkWr s).msgOpen = s.msgOpen := rfl
@[simp] theorem fsmClkWr_halted : (fsmClkWr s).halted = s.halted := rfl
@[simp] theorem fsmClkWr_cmdRejected : (fsmClkWr s).cmdRejected = s.cmdRejected := rfl
@[simp] theorem fsmClkWr_rejCause : (fsmClkWr s).rejCause = s.rejCause := rfl
@[simp] theorem fsmClkWr_busErr : (fsmClkWr s).busErr = (s.busErr || !s.answer.ok) := rfl
@[simp] theorem fsmClkWr_cfg : (fsmClkWr s).cfg = s.cfg := rfl
@[simp] theorem fsmClkWr_events : (fsmClkWr s).events = s.events := rfl
@[simp] theorem fsmClkWr_now : (fsmClkWr s).now = s.now := rfl
@[simp] theorem fsmClkWr_draws : (fsmClkWr s).draws = s.draws.tail := rfl
@[simp] theorem fsmClkWr_drawn : (fsmClkWr s).drawn = s.drawn + 1 := rfl
@[simp] theorem fsmClkWr_out : (fsmClkWr s).out = s.out := rfl
@[simp] theorem fsmClkWr_bus : (fsmClkWr s).bus = s.bus ++ [.write s.cfg.devAddr s.cfg.regPwr s.cfg.pwrRunValue s.answer.ok] := rfl

@[simp] theorem burstRead_record : (burstRead s).record = s.record.withBurst s.answer.data := rfl
@[simp] theorem burstRead_initState : (burstRead s).initState = s.initState := rfl
@[simp] theorem burstRead_delay : (burstRead s).delay = s.delay := rfl
@[simp] theorem burstRead_pollCount : (burstRead s).pollCount = s.pollCount := rfl
@[simp] theorem burstRead_txq : (burstRead s).txq = s.txq := rfl
@[simp] theorem burstRead_msgOpen : (burstRead s).msgOpen = s.msgOpen := rfl
@[simp] theorem burstRead_halted : (burstRead s).halted = s.halted := rfl
@[simp] theorem burstRead_cmdRejected : (burstRead s).cmdRejected = s.cmdRejected := rfl
@[simp] theorem burstRead_rejCause : (burstRead s).rejCause = s.rejCause := rfl
@[simp] theorem burstRead_busErr : (burstRead s).busErr = (s.busErr || !s.answer.ok) := rfl
@[simp] theorem burstRead_cfg : (burstRead s).cfg = s.cfg := rfl
@[simp] theorem burstRead_events : (burstRead s).events = s.events := rfl
@[simp] theorem burstRead_now : (burstRead s).now = s.now := rfl
@[simp] theorem burstRead_draws : (burstRead s).draws = s.draws.tail := rfl
@[simp] theorem burstRead_drawn : (burstRead s).drawn = s.drawn + 1 := rfl
@[simp] theorem burstRead_out : (burstRead s).out = s.out := rfl
@[simp] theorem burstRead_bus : (burstRead s).bus = s.bus ++ [.read s.cfg.devAddr s.cfg.burstStartReg (s.answer.data.toList.take burstLen) s.answer.ok] := rfl

end Sys2Proof.Machine
end

