-- ==== Sys2Proof/Laws/Ops.lean ====
section
/-! SUPPORT. What each shared operation can do, once: the checks at acceptance, the acceptance itself, the
transport's step, the delay step and the FSM step. -/

namespace Sys2Proof.Machine

variable (s : State)

/-! ### The checks, per kind of command -/

/-- The checks of a command that needs no open message and depends on no initialization state. -/
theorem verdict_closed {op : Byte}
    (h : op ∈ [0x03#8, 0x10#8, 0x11#8, 0x12#8, 0x13#8, 0x14#8, 0x17#8]) :
    verdict op s = if s.halted then .drop else if s.msgOpen then .reject .msgInProgress else .perform := by
  simp only [List.mem_cons, List.not_mem_nil, or_false] at h
  rcases h with rfl | rfl | rfl | rfl | rfl | rfl | rfl <;>
    cases hm : s.msgOpen <;> simp [verdict, assignedOpcodes, hm]

/-- The checks of a command that needs an open message. -/
theorem verdict_open {op : Byte} (h : op ∈ [0x15#8, 0x16#8]) :
    verdict op s = if s.halted then .drop else if s.msgOpen then .perform else .reject .noMsgOpen := by
  simp only [List.mem_cons, List.not_mem_nil, or_false] at h
  rcases h with rfl | rfl <;> cases hm : s.msgOpen <;> simp [verdict, assignedOpcodes, hm]

/-- FATAL is never rejected. -/
theorem verdict_fatal : verdict 0x1F#8 s = if s.halted then .drop else .perform := by
  simp [verdict, assignedOpcodes]

/-- INIT needs IDLE. -/
theorem verdict_init : verdict 0x01#8 s =
    if s.halted then .drop else if s.msgOpen then .reject .msgInProgress
    else if s.initState = InitState.idle.code then .perform else .reject .initState := by
  cases hm : s.msgOpen <;> by_cases hi : s.initState = InitState.idle.code <;>
    simp [verdict, assignedOpcodes, hm, hi]

/-- READ needs CONFIGURED. -/
theorem verdict_read : verdict 0x02#8 s =
    if s.halted then .drop else if s.msgOpen then .reject .msgInProgress
    else if s.initState = InitState.configured.code then .perform else .reject .initState := by
  cases hm : s.msgOpen <;> by_cases hi : s.initState = InitState.configured.code <;>
    simp [verdict, assignedOpcodes, hm, hi]

/-- An unassigned opcode is rejected as such before any other check but the halt. -/
theorem verdict_unassigned {op : Byte} (h : op ∉ assignedOpcodes) :
    verdict op s = if s.halted then .drop else .reject .illegalOpcode := by
  simp [verdict, h]

/-- Only a halted block drops a command. -/
theorem verdict_drop {op : Byte} (h : verdict op s = .drop) : s.halted = true := by
  unfold verdict at h
  split at h
  · assumption
  · iterate 5 (split at h; · cases h)
    cases h

/-- A rejection names a cause. -/
theorem verdict_reject {op : Byte} {c : RejCause} (h : verdict op s = .reject c) : c ≠ .none := by
  unfold verdict at h
  iterate 6 (split at h; · cases h <;> decide)
  cases h

/-- When INIT is performed. -/
theorem verdict_init_perform : verdict 0x01#8 s = .perform ↔
    s.halted = false ∧ s.msgOpen = false ∧ s.initState = InitState.idle.code := by
  rw [verdict_init]
  cases s.halted <;> cases s.msgOpen <;> by_cases h : s.initState = InitState.idle.code <;> simp [h]

/-- When READ is performed. -/
theorem verdict_read_perform : verdict 0x02#8 s = .perform ↔
    s.halted = false ∧ s.msgOpen = false ∧ s.initState = InitState.configured.code := by
  rw [verdict_read]
  cases s.halted <;> cases s.msgOpen <;> by_cases h : s.initState = InitState.configured.code <;> simp [h]

/-- When a command that needs a closed message is performed. -/
theorem verdict_closed_perform {op : Byte}
    (h : op ∈ [0x03#8, 0x10#8, 0x11#8, 0x12#8, 0x13#8, 0x14#8, 0x17#8]) :
    verdict op s = .perform ↔ s.halted = false ∧ s.msgOpen = false := by
  rw [verdict_closed s h]
  cases s.halted <;> cases s.msgOpen <;> simp

/-- When a command that needs an open message is performed. -/
theorem verdict_open_perform {op : Byte} (h : op ∈ [0x15#8, 0x16#8]) :
    verdict op s = .perform ↔ s.halted = false ∧ s.msgOpen = true := by
  rw [verdict_open s h]
  cases s.halted <;> cases s.msgOpen <;> simp

/-- FATAL is performed unless the block is halted. -/
theorem verdict_fatal_perform : verdict 0x1F#8 s = .perform ↔ s.halted = false := by
  rw [verdict_fatal]
  cases s.halted <;> simp

/-- An unassigned opcode is never performed. -/
theorem verdict_unassigned_perform {op : Byte} (h : op ∉ assignedOpcodes) : verdict op s ≠ .perform := by
  rw [verdict_unassigned s h]
  cases s.halted <;> simp

/-! ### Acceptance -/

/-- What an acceptance can do: the command is dropped by a halted block, rejected, or performed. -/
theorem accept_cases {op : Byte} {effect : State → State} {t : State} (h : accept op effect s = .next t) :
    (s.halted = true ∧ t = s) ∨
    (s.halted = false ∧ ∃ c, c ≠ .none ∧ t = s.raiseReject c) ∨
    (s.halted = false ∧ verdict op s = .perform ∧ t = effect s) := by
  cases hh : s.halted with
  | true =>
    have hv : verdict op s = .drop := by simp [verdict, hh]
    simp only [accept, hv, Host.Outcome.next.injEq] at h
    exact .inl ⟨rfl, h.symm⟩
  | false =>
    cases hv : verdict op s with
    | drop => exact absurd (verdict_drop s hv) (by simp [hh])
    | reject c =>
      simp only [accept, hv, Host.Outcome.next.injEq] at h
      exact .inr (.inl ⟨rfl, c, verdict_reject s hv, h.symm⟩)
    | perform =>
      simp only [accept, hv, Host.Outcome.next.injEq] at h
      exact .inr (.inr ⟨rfl, rfl, h.symm⟩)

/-- An acceptance always answers a next state. -/
theorem accept_next (op : Byte) (effect : State → State) : ∃ t, accept op effect s = .next t := by
  unfold accept
  split <;> exact ⟨_, rfl⟩

/-! ### Codes, transport and FSM -/

/-- Both codes are named exactly when they are at most 8 and 4. -/
theorem unnamedCode_eq_none : s.unnamedCode = none ↔ s.initState.toNat ≤ 8 ∧ s.rejCause.toNat ≤ 4 := by
  have key : ∀ (c : BitVec 4) (r : BitVec 3), (match InitState.ofCode c with
      | none => some (.unnamedInitState c)
      | some _ => if decide (r.toNat ≤ 4) then none else some (Fault.unnamedRejCause r)) = none ↔
        c.toNat ≤ 8 ∧ r.toNat ≤ 4 := by decide
  exact key s.initState s.rejCause

/-- A rejection records a named cause, and keeps a named one. -/
theorem firstCause_named {old : BitVec 3} (h : old.toNat ≤ 4) (c : RejCause) : (firstCause old c).toNat ≤ 4 := by
  unfold firstCause
  split
  · cases c <;> decide
  · exact h

/-- After a rejection some cause is recorded. -/
theorem firstCause_ne {old : BitVec 3} {c : RejCause} (h : c ≠ .none) : firstCause old c ≠ 0#3 := by
  unfold firstCause
  split
  · cases c <;> first | decide | exact absurd rfl h
  · assumption

/-- A recorded cause stays. -/
theorem firstCause_of_ne {old : BitVec 3} (h : old ≠ 0#3) (c : RejCause) : firstCause old c = old := if_neg h

/-- The transport's step either moves the head of `TXQ` to the stream or does nothing. -/
theorem transportStep_cases (ready : Bool) :
    (∃ b rest, ready = true ∧ s.txq = b :: rest ∧
      s.transportStep ready = { s with txq := rest, out := s.out ++ [b] }) ∨
    ((ready = false ∨ s.txq = []) ∧ s.transportStep ready = s) := by
  unfold State.transportStep
  cases ready with
  | false => exact .inr ⟨.inl rfl, rfl⟩
  | true =>
    cases h : s.txq with
    | nil => exact .inr ⟨.inr rfl, rfl⟩
    | cons b rest => exact .inl ⟨b, rest, rfl, rfl, rfl⟩

/-- The transport accepts the waiting head. -/
theorem transportStep_cons {b : Byte} {rest : List Byte} (h : s.txq = b :: rest) :
    s.transportStep true = { s with txq := rest, out := s.out ++ [b] } := by
  simp only [State.transportStep, h]

/-- Nothing waits. -/
theorem transportStep_nil (ready : Bool) (h : s.txq = []) : s.transportStep ready = s := by
  cases ready <;> simp only [State.transportStep, h]

/-- A delay step either exits at 0 or counts down by one. -/
theorem delayStep_cases (exit : InitState) :
    (s.delay = 0#32 ∧ delayStep exit s = { s with initState := exit.code }) ∨
    (s.delay ≠ 0#32 ∧ delayStep exit s = { s with delay := s.delay - 1#32 }) := by
  unfold delayStep
  split
  · exact .inl ⟨‹_›, rfl⟩
  · exact .inr ⟨‹_›, rfl⟩

/-- Where a poll leads: the bit reads clear, or the limit is met, or another poll follows. -/
theorem afterPoll_cases (p : Params) (b : Byte) (n : Word) :
    (b &&& p.resetMask = 0#8 ∧ afterPoll p b n = .settle) ∨
    (b &&& p.resetMask ≠ 0#8 ∧ p.pollLimit ≠ 0#32 ∧ p.pollLimit.toNat ≤ n.toNat ∧ afterPoll p b n = .initTimeout) ∨
    (b &&& p.resetMask ≠ 0#8 ∧ (p.pollLimit = 0#32 ∨ n.toNat < p.pollLimit.toNat) ∧ afterPoll p b n = .poll) := by
  unfold afterPoll
  split
  · exact .inl ⟨‹_›, rfl⟩
  · split
    · rename_i h
      exact .inr (.inl ⟨‹_›, h.1, h.2, rfl⟩)
    · rename_i h
      refine .inr (.inr ⟨‹_›, ?_, rfl⟩)
      by_cases h0 : p.pollLimit = 0#32
      · exact .inl h0
      · exact .inr (by simpa [h0] using h)

/-- A read of one register takes the answer's first byte. -/
theorem take_one_data (v : Vector Byte 14) : v.toList.take 1 = [v[0]] := by
  obtain ⟨⟨l⟩, h⟩ := v
  match l, h with
  | a :: l, h => simp

/-- A code names a state exactly when it is that state's code. -/
theorem ofCode_eq_some {c : BitVec 4} {i : InitState} : InitState.ofCode c = some i ↔ c = i.code := by
  revert c
  cases i <;> decide

@[simp] theorem ofCode_code (i : InitState) : InitState.ofCode i.code = some i := ofCode_eq_some.mpr rfl

/-- Different states have different codes. -/
@[simp] theorem code_inj {i j : InitState} : i.code = j.code ↔ i = j := by
  cases i <;> cases j <;> decide

theorem fsmStep_resetWr (h : s.initState = InitState.resetWr.code) : fsmStep s = fsmResetWr s := by
  simp [fsmStep, h]

theorem fsmStep_poll (h : s.initState = InitState.poll.code) : fsmStep s = fsmPoll s := by
  simp [fsmStep, h]

theorem fsmStep_settle (h : s.initState = InitState.settle.code) : fsmStep s = fsmSettle s := by
  simp [fsmStep, h]

theorem fsmStep_sprWr (h : s.initState = InitState.sprWr.code) : fsmStep s = fsmSprWr s := by
  simp [fsmStep, h]

theorem fsmStep_sprDly (h : s.initState = InitState.sprDly.code) : fsmStep s = fsmSprDly s := by
  simp [fsmStep, h]

theorem fsmStep_clkWr (h : s.initState = InitState.clkWr.code) : fsmStep s = fsmClkWr s := by
  simp [fsmStep, h]

/-- Which FSM step a transient state takes. -/
theorem transient_cases (h : s.transient = true) :
    (s.initState = InitState.resetWr.code ∧ fsmStep s = fsmResetWr s) ∨
    (s.initState = InitState.poll.code ∧ fsmStep s = fsmPoll s) ∨
    (s.initState = InitState.settle.code ∧ fsmStep s = fsmSettle s) ∨
    (s.initState = InitState.sprWr.code ∧ fsmStep s = fsmSprWr s) ∨
    (s.initState = InitState.sprDly.code ∧ fsmStep s = fsmSprDly s) ∨
    (s.initState = InitState.clkWr.code ∧ fsmStep s = fsmClkWr s) := by
  simp only [State.transient, decide_eq_true_eq, List.mem_cons, List.not_mem_nil, or_false] at h
  rcases h with h | h | h | h | h | h
  · exact .inl ⟨h, fsmStep_resetWr s h⟩
  · exact .inr (.inl ⟨h, fsmStep_poll s h⟩)
  · exact .inr (.inr (.inl ⟨h, fsmStep_settle s h⟩))
  · exact .inr (.inr (.inr (.inl ⟨h, fsmStep_sprWr s h⟩)))
  · exact .inr (.inr (.inr (.inr (.inl ⟨h, fsmStep_sprDly s h⟩))))
  · exact .inr (.inr (.inr (.inr (.inr ⟨h, fsmStep_clkWr s h⟩))))

end Sys2Proof.Machine
end

