-- ==== Sys2Proof/Laws/PerInstr.lean ====
section
/-! SUPPORT. Facts about every command as syntax, one lemma per constructor. -/

namespace Sys2Proof.Laws.EncodeFormat

/-- The word of a command has its opcode in `W[71:64]`, and every ignored bit of it is 0 (30_encoding.md R70, R78). -/
def Statement (i : Instr) : Prop :=
  Command.op (encode i) = i.opcode ∧ encode i &&& i.careMask = encode i

theorem init : Statement .init := ⟨by decide, by decide⟩

theorem read : Statement .read := ⟨by decide, by decide⟩

theorem loadAux (ts : Word) (an : Half) (b0 b1 : Byte) : Statement (.loadAux ts an b0 b1) :=
  ⟨op_encode _, BitVec.and_allOnes⟩

theorem dataStart : Statement .dataStart := ⟨by decide, by decide⟩

theorem dataElement : Statement .dataElement := ⟨by decide, by decide⟩

theorem dataEnd : Statement .dataEnd := ⟨by decide, by decide⟩

theorem heartbeat : Statement .heartbeat := ⟨by decide, by decide⟩

theorem msgOpen : Statement .msgOpen := ⟨by decide, by decide⟩

theorem msgChar (byte : Byte) : Statement (.msgChar byte) := ⟨op_encode _, by unfold encode; revert byte; decide⟩

theorem msgClose (ln : Bool) : Statement (.msgClose ln) := ⟨op_encode _, by unfold encode; revert ln; decide⟩

theorem errorCode (byte : Byte) : Statement (.errorCode byte) := ⟨op_encode _, by unfold encode; revert byte; decide⟩

theorem fatal : Statement .fatal := ⟨by decide, by decide⟩

end Sys2Proof.Laws.EncodeFormat
end

