-- ==== Sys2Proof/Laws/Step.lean ====
section
/-! SUPPORT. What an accepted word and a step can do, once: inversion of `acceptWord`, `controllerStep` and `step`,
and the unfolding of a run. -/

namespace Sys2Proof.Machine

variable {s t : State}

/-- The commands' effects, when performed. -/
def effectOf (i : Instr) (s : State) : State :=
  match i with
  | .init => { s with initState := InitState.resetWr.code }
  | .read => burstRead s
  | .loadAux ts an b0 b1 => { s with record := s.record.withAux ts an b0 b1 }
  | .dataStart => s.emit [tagDataStart]
  | .dataElement => s.emit (elementFrame s.cfg.recLittleEndian s.record)
  | .dataEnd => s.emit [tagDataEnd]
  | .heartbeat => s.emit [tagHeartbeat]
  | .msgOpen => { s.emit [tagMessage] with msgOpen := true }
  | .msgChar byte => s.emit [byte]
  | .msgClose ln => { s.emit (messageEnd ln) with msgOpen := false }
  | .errorCode byte => s.emit (errorFrame byte)
  | .fatal => { s.emit (fatalEmission s.msgOpen) with msgOpen := false, halted := true }

/-- Every command's meaning is the acceptance of its opcode with its effect. -/
theorem exec_eq_accept (i : Instr) (s : State) : exec i s = accept i.opcode (effectOf i) s := by
  cases i <;> rfl

/-- An assigned opcode decodes to a command of that opcode. -/
theorem decode_assigned {w : Command} (h : w.op ∈ assignedOpcodes) : ∃ i, decode w = .ok i ∧ i.opcode = w.op := by
  simp only [assignedOpcodes, List.mem_cons, List.not_mem_nil, or_false] at h
  rcases h with h | h | h | h | h | h | h | h | h | h | h | h <;>
    exact ⟨_, by simp only [decode, h]; rfl, by rw [h]; rfl⟩

/-- An unassigned opcode is refused by its name. -/
theorem decode_unassigned {w : Command} (h : w.op ∉ assignedOpcodes) :
    decode w = .error (.illegalOpcode w.op) := by
  simp only [assignedOpcodes, List.mem_cons, List.not_mem_nil, or_false, not_or] at h
  obtain ⟨h1, h2, h3, h4, h5, h6, h7, h8, h9, h10, h11, h12⟩ := h
  unfold decode
  rw [if_neg h1, if_neg h2, if_neg h3, if_neg h4, if_neg h5, if_neg h6, if_neg h7, if_neg h8, if_neg h9, if_neg h10,
    if_neg h11, if_neg h12]

/-- A word the decoder refuses has an unassigned opcode. -/
theorem decode_error {w : Command} {op : Byte} (h : decode w = .error (.illegalOpcode op)) :
    op = w.op ∧ op ∉ assignedOpcodes := by
  by_cases hm : w.op ∈ assignedOpcodes
  · obtain ⟨i, hi, -⟩ := decode_assigned hm
    rw [hi] at h
    cases h
  · rw [decode_unassigned hm] at h
    cases h
    exact ⟨rfl, hm⟩

/-- What an accepted word can do: it is dropped, rejected, or a decoded command is performed. -/
theorem acceptWord_cases {w : Command} (h : acceptWord w s = .next t) :
    (s.halted = true ∧ t = s) ∨
    (s.halted = false ∧ ∃ c, c ≠ .none ∧ t = s.raiseReject c) ∨
    (s.halted = false ∧ ∃ i, decode w = .ok i ∧ verdict i.opcode s = .perform ∧ t = effectOf i s) := by
  unfold acceptWord at h
  split at h
  · rename_i i hd
    rw [exec_eq_accept] at h
    rcases accept_cases s h with h | h | ⟨hh, hv, ht⟩
    · exact .inl h
    · exact .inr (.inl h)
    · exact .inr (.inr ⟨hh, i, hd, hv, ht⟩)
  · rename_i op hd
    rcases accept_cases s h with h | h | ⟨hh, hv, ht⟩
    · exact .inl h
    · exact .inr (.inl h)
    · exact absurd hv (verdict_unassigned_perform s (decode_error hd).2)

/-- An accepted word always leads to a next state. -/
theorem acceptWord_next (w : Command) (s : State) : ∃ t, acceptWord w s = .next t := by
  unfold acceptWord
  split
  · rw [exec_eq_accept]; exact accept_next s _ _
  · exact accept_next s _ _

/-- The controller's turn always leads to a next state. -/
theorem controllerStep_next (cmd : Option Command) (s : State) : ∃ t, controllerStep cmd s = .next t := by
  unfold controllerStep
  split
  · exact ⟨_, rfl⟩
  · split
    · exact ⟨_, rfl⟩
    · split
      · exact ⟨_, rfl⟩
      · exact acceptWord_next _ s

/-- What the controller's turn can do: an FSM step, a wait, or the acceptance of the presented word. -/
theorem controllerStep_cases {cmd : Option Command} (h : controllerStep cmd s = .next t) :
    (s.transient = true ∧ t = fsmStep s) ∨
    (s.transient = false ∧ (s.txq ≠ [] ∨ cmd = none) ∧ t = s) ∨
    (s.transient = false ∧ s.txq = [] ∧ ∃ w, cmd = some w ∧ acceptWord w s = .next t) := by
  unfold controllerStep at h
  split at h
  · exact .inl ⟨‹_›, by simpa using h.symm⟩
  · have hf : s.transient = false := by simpa using ‹¬s.transient = true›
    split at h
    · exact .inr (.inl ⟨hf, .inl ‹_›, by simpa using h.symm⟩)
    · split at h
      · exact .inr (.inl ⟨hf, .inr rfl, by simpa using h.symm⟩)
      · exact .inr (.inr ⟨hf, by simpa using ‹¬s.txq ≠ []›, _, rfl, h⟩)

/-- What a step can do. -/
theorem step_cases (h : step s = .next t) : s.cfg.wellFormed = true ∧
    ((s.event = .rst ∧ t = s.tick.applyReset) ∨
     (∃ cmd, s.event = .controller cmd ∧ s.unnamedCode = none ∧ controllerStep cmd s.tick = .next t) ∨
     (∃ ready, s.event = .transport ready ∧ s.unnamedCode = none ∧ t = s.tick.transportStep ready)) := by
  have hn : s.tick.unnamedCode = s.unnamedCode := rfl
  unfold step at h
  split at h
  · refine ⟨‹_›, ?_⟩
    unfold turn at h
    split at h
    · exact .inl ⟨‹_›, by simpa using h.symm⟩
    · split at h
      · cases h
      · exact .inr (.inl ⟨_, ‹_›, hn ▸ ‹_›, h⟩)
    · split at h
      · cases h
      · exact .inr (.inr ⟨_, ‹_›, hn ▸ ‹_›, by simpa using h.symm⟩)
  · cases h

/-- A step from a safe state leads to a next state. -/
theorem step_of_safe (h : s.safe = true) : ∃ t, step s = .next t := by
  simp only [State.safe, Bool.and_eq_true, decide_eq_true_eq] at h
  have hn : s.tick.unnamedCode = none := h.2
  simp only [step, h.1, if_true, turn]
  cases s.event with
  | rst => exact ⟨_, rfl⟩
  | controller c => simp only [hn]; exact controllerStep_next _ _
  | transport r => simp only [hn]; exact ⟨_, rfl⟩

/-- A run of one step more starts with a step, on any machine. -/
theorem run_succ (M : Host.Core) (n : Nat) (s t : M.State) :
    M.run (n + 1) s = .next t ↔ ∃ u, M.step s = .next u ∧ M.run n u = .next t := by
  simp only [Host.Core.run]
  cases M.step s <;> simp

@[simp] theorem steps_zero : Steps 0 s t ↔ s = t :=
  ⟨Host.Outcome.next.inj, congrArg _⟩

/-- A run of one step more starts with a step. -/
theorem steps_succ {n : Nat} : Steps (n + 1) s t ↔ ∃ u, step s = .next u ∧ Steps n u t :=
  run_succ Sys2Proof.core n s t

/-- A run of two parts. -/
theorem steps_add {m n : Nat} : Steps (m + n) s t ↔ ∃ u, Steps m s u ∧ Steps n u t := by
  induction m generalizing s with
  | zero => simp
  | succ m ih =>
    rw [Nat.succ_add, steps_succ]
    constructor
    · rintro ⟨u, hu, h⟩
      obtain ⟨v, hv, hw⟩ := ih.mp h
      exact ⟨v, steps_succ.mpr ⟨u, hu, hv⟩, hw⟩
    · rintro ⟨v, hv, hw⟩
      obtain ⟨u, hu, h⟩ := steps_succ.mp hv
      exact ⟨u, hu, ih.mpr ⟨v, h, hw⟩⟩

end Sys2Proof.Machine
end

