-- ==== Sys2Proof/Laws/Run.lean ====
section
/-! SUPPORT. The environment's lists along a run: each step takes one event, and at most one answer. -/

namespace Sys2Proof.Machine

variable {s t : State}

/-- The listed head, else the default, is the entry at 0. -/
theorem headD_eq_getD {α : Type} (l : List α) (d : α) : l.headD d = l.getD 0 d := by
  cases l <;> rfl

/-- An entry of the rest is the next entry. -/
theorem getD_tail {α : Type} (l : List α) (n : Nat) (d : α) : l.tail.getD n d = l.getD (n + 1) d := by
  cases l <;> simp

theorem event_eq_eventAt (s : State) : s.event = s.eventAt 0 := headD_eq_getD _ _

theorem answer_eq_drawAt (s : State) : s.answer = s.drawAt 0 := headD_eq_getD _ _

/-- A step takes exactly one event. -/
theorem step_events (h : step s = .next t) : t.events = s.events.tail ∧ t.now = s.now + 1 := by
  obtain ⟨_, ⟨_, rfl⟩ | ⟨cmd, _, _, h⟩ | ⟨r, _, _, rfl⟩⟩ := step_cases h
  · simp
  · rcases controllerStep_cases h with ⟨ht, rfl⟩ | ⟨_, _, rfl⟩ | ⟨_, _, w, _, h⟩
    · rcases transient_cases _ ht with ⟨_, h⟩ | ⟨_, h⟩ | ⟨_, h⟩ | ⟨_, h⟩ | ⟨_, h⟩ | ⟨_, h⟩ <;> rw [h] <;> simp
    · simp
    · rcases acceptWord_cases h with ⟨_, rfl⟩ | ⟨_, c, _, rfl⟩ | ⟨_, i, _, _, rfl⟩
      · simp
      · simp
      · cases i <;> simp [effectOf]
  · rcases transportStep_cases s.tick r with ⟨_, _, _, _, h⟩ | ⟨_, h⟩ <;> rw [h] <;> simp

/-- After a step the environment's choices are the later ones. -/
theorem eventAt_step (h : step s = .next t) (n : Nat) : t.eventAt n = s.eventAt (n + 1) := by
  obtain ⟨h1, h2⟩ := step_events h
  simp only [State.eventAt, h1, h2, getD_tail]
  congr 2
  omega

/-- No reset comes in the rest of a run that has none. -/
theorem NoReset.tail {n : Nat} (h : NoReset (n + 1) s) (ht : step s = .next t) : NoReset n t := fun j hj => by
  rw [eventAt_step ht]
  exact h (j + 1) (by omega)

/-- A run without a reset starts with no reset. -/
theorem NoReset.head {n : Nat} (h : NoReset (n + 1) s) : s.event ≠ .rst := by
  rw [event_eq_eventAt]
  exact h 0 (by omega)

/-- The turns of a run, counted from its first step on. -/
theorem controllerTurns_succ (h : step s = .next t) (n : Nat) :
    controllerTurns s (n + 1) = (if isControllerTurn s.event then 1 else 0) + controllerTurns t n := by
  have he : ∀ j, s.eventAt (j + 1) = t.eventAt j := fun j => (eventAt_step h j).symm
  unfold controllerTurns
  rw [List.range_succ_eq_map, List.filter_cons, List.filter_map, event_eq_eventAt]
  simp only [Function.comp_def, he]
  split <;> simp [Nat.add_comm]

end Sys2Proof.Machine
end

