-- ==== Sys2Proof/Tests/Slice0.lean ====
section
/-! SUPPORT. Small tests, with expected results from spec/95_test_vectors.md and the rules' own examples, and one
witness for each statement that has hypotheses. -/

open Sys2Proof Sys2Proof.Machine Sys2Proof.Claims

namespace Sys2Proof.Tests

/-- R7's defaults with `T_SETTLE` = 1 and `T_SPR` = 0, the settings of vector P1. -/
def p1 : Params := { Config.params with tSettle := 1#32, tSpr := 0#32 }

/-- Right after reset. -/
def ready : State := State.resetWith p1

/-- The burst of R110's example. -/
def burst : BusAnswer :=
  ⟨true, #v[0x00#8, 0x64#8, 0xFF#8, 0x38#8, 0x01#8, 0x2C#8, 0x12#8, 0x34#8, 0xFF#8, 0xCE#8, 0x00#8, 0x00#8, 0x00#8,
    0x32#8]⟩

/-- An answer whose first byte is `b`. -/
def answerOf (ok : Bool) (b : Byte) : BusAnswer := ⟨ok, (Vector.replicate 14 0x00#8).set 0 b⟩

/-- The reset bit reads set, or clear, on the test device (95_test_vectors.md, head). -/
def set80 : BusAnswer := answerOf true 0x80#8

def clear40 : BusAnswer := answerOf true 0x40#8

/-- CONFIGURED, with R110's burst coming. -/
def configured : State := { ready with initState := 7#4, draws := [burst] }

def opened : State := { ready with msgOpen := true }

def stopped : State := { ready with halted := true }

/-- The state of vector E1, before DATA_ELEMENT. -/
def e1 : State := { ready with
  record := ⟨123456#32, 512#16, 1#8, 0#8, 0x0064#16, 0xFF38#16, 0x012C#16, 0xFFCE#16, 0x0000#16, 0x0032#16⟩ }

/-- A state whose next step is the controller's with the word `w`. -/
def offer (w : Command) (s : State) : State := { s with events := [.controller (some w)] }

/-- The controller's turn with no word. -/
def turnOf (s : State) : State := { s with events := [.controller none] }

/-- A field of the next state, if there is one. -/
def after {α : Type} (o : Host.Outcome State Fault Refusal) (f : State → α) : Option α :=
  match o with
  | .next t => some (f t)
  | .fault _ => none
  | .refused _ => none

/-! ### Well-formedness: each check refuses an ill-formed term -/

theorem test_refuses_zero_mask : ({ p1 with resetMask := 0#8 }).wellFormed = false := by decide

theorem test_refuses_wrapping_burst : ({ p1 with burstStartReg := 0xF3#8 }).wellFormed = false := by decide

theorem test_accepts_last_burst_start : ({ p1 with burstStartReg := 0xF2#8 }).wellFormed = true := by decide

theorem test_refuses_wide_delays :
    p1.withDelays (2 ^ 32) 0 = none ∧ p1.withDelays 0 (2 ^ 32) = none := by decide

theorem test_refuses_wide_aux :
    (Line.loadAux (2 ^ 32) 0 0 0).wellFormed = false ∧ (Line.loadAux 0 (2 ^ 16) 0 0).wellFormed = false ∧
    (Line.loadAux 0 0 256 0).wellFormed = false ∧ (Line.loadAux 0 0 0 256).wellFormed = false ∧
    (Line.sample (2 ^ 32) 0 0 0).wellFormed = false := by decide

theorem test_refuses_wide_bytes :
    (Line.msgChar 256).wellFormed = false ∧ (Line.errorCode 256).wellFormed = false ∧
    (Line.msgClose 2).wellFormed = false ∧ (Line.message [0x68, 128]).wellFormed = false ∧
    (Line.messageLn [128]).wellFormed = false := by decide

/-! ### Decoding: words written out from R71, R73 and R78 -/

theorem test_decode_sensor_words :
    decode 0x010000000000000000#72 = .ok .init ∧ decode 0x020000000000000000#72 = .ok .read ∧
    decode 0x03000102000001E240#72 = .ok (.loadAux 123456#32 512#16 1#8 0#8) ∧
    decode 0x03FFFFFFFFFFFFFFFF#72 = .ok (.loadAux 0xFFFFFFFF#32 0xFFFF#16 0xFF#8 0xFF#8) := ⟨rfl, rfl, rfl, rfl⟩

theorem test_decode_frame_words :
    decode 0x100000000000000000#72 = .ok .dataStart ∧ decode 0x110000000000000000#72 = .ok .dataElement ∧
    decode 0x120000000000000000#72 = .ok .dataEnd ∧ decode 0x130000000000000000#72 = .ok .heartbeat ∧
    decode 0x140000000000000000#72 = .ok .msgOpen ∧ decode 0x150123456789ABCD41#72 = .ok (.msgChar 0x41#8) ∧
    decode 0x16FFFFFFFFFFFFFFFE#72 = .ok (.msgClose false) ∧ decode 0x160000000000000001#72 = .ok (.msgClose true) ∧
    decode 0x17000000000000000A#72 = .ok (.errorCode 0x0A#8) ∧ decode 0x1F0000000000000000#72 = .ok .fatal :=
  ⟨rfl, rfl, rfl, rfl, rfl, rfl, rfl, rfl, rfl, rfl⟩

theorem test_decode_refuses_unassigned :
    decode 0x000000000000000000#72 = .error (.illegalOpcode 0x00#8) ∧
    decode 0x20FFFFFFFFFFFFFFFF#72 = .error (.illegalOpcode 0x20#8) := ⟨rfl, rfl⟩

theorem test_decode_table_word :
    decodeTableWord 72 0x160000000000000001 = some (.msgClose true) ∧ decodeTableWord 72 0 = none := ⟨rfl, rfl⟩

theorem test_encode_loadAux : encode (.loadAux 123456#32 512#16 1#8 0#8) = 0x03000102000001E240#72 := by decide

/-- R79: MESSAGELN "hi". -/
theorem test_assemble_messageLn : (Line.messageLn [0x68, 0x69]).assemble =
    some [0x140000000000000000#72, 0x150000000000000068#72, 0x150000000000000069#72, 0x160000000000000001#72] := by
  decide

/-! ### One step of each command -/

/-- R100's example: status[3:0] = 1 and status[4] = 1. -/
theorem test_init_status : after (exec .init ready) State.status = some 0x0011#16 := by decide

/-- 95, 2.9: INIT in CONFIGURED is rejected with cause 4. -/
theorem test_init_again : after (exec .init configured) State.status = some 0x0487#16 := by decide

/-- R110's example: accel = (100, −200, 300), gyro = (−50, 0, 50). -/
theorem test_read_burst : after (exec .read configured) (fun t => (s16 t.record.accelX, s16 t.record.accelY,
    s16 t.record.accelZ, s16 t.record.gyroX, s16 t.record.gyroY, s16 t.record.gyroZ)) =
    some (100, -200, 300, -50, 0, 50) := by decide

/-- P3, row 1: READ in IDLE gives status 0x0480. -/
theorem test_read_in_idle : after (exec .read ready) State.status = some 0x0480#16 := by decide

/-- R113's example. -/
theorem test_loadAux : after (exec (.loadAux 123456#32 512#16 1#8 0#8) ready) (·.record) =
    some ⟨123456#32, 512#16, 1#8, 0#8, 0#16, 0#16, 0#16, 0#16, 0#16, 0#16⟩ := by decide

theorem test_dataStart : after (exec .dataStart ready) (·.txq) = some [0x01#8] := by decide

/-- E1, little-endian. -/
theorem test_dataElement_little : after (exec .dataElement e1) (·.txq) = some [0x02#8, 0x40#8, 0xE2#8, 0x01#8, 0x00#8,
    0x00#8, 0x02#8, 0x01#8, 0x00#8, 0x64#8, 0x00#8, 0x38#8, 0xFF#8, 0x2C#8, 0x01#8, 0xCE#8, 0xFF#8, 0x00#8, 0x00#8,
    0x32#8, 0x00#8] := by decide

/-- E1, big-endian. -/
theorem test_dataElement_big : after (exec .dataElement { e1 with cfg := { p1 with recLittleEndian := false } })
    (·.txq) = some [0x02#8, 0x00#8, 0x01#8, 0xE2#8, 0x40#8, 0x02#8, 0x00#8, 0x01#8, 0x00#8, 0x00#8, 0x64#8, 0xFF#8,
    0x38#8, 0x01#8, 0x2C#8, 0xFF#8, 0xCE#8, 0x00#8, 0x00#8, 0x00#8, 0x32#8] := by decide

theorem test_dataEnd : after (exec .dataEnd ready) (·.txq) = some [0x03#8] := by decide

theorem test_heartbeat : after (exec .heartbeat ready) (·.txq) = some [0xFA#8] := by decide

theorem test_heartbeat_in_message : after (exec .heartbeat opened) (fun t => (t.txq, t.rejCause)) = some ([], 2#3) := by
  decide

theorem test_msgOpen : after (exec .msgOpen ready) (fun t => (t.txq, t.msgOpen)) = some ([0x00#8], true) := by decide

theorem test_msgChar : after (exec (.msgChar 0x41#8) opened) (·.txq) = some [0x41#8] := by decide

theorem test_msgClose_line : after (exec (.msgClose true) opened) (fun t => (t.txq, t.msgOpen)) =
    some ([0x0A#8, 0x00#8], false) := by decide

theorem test_msgClose_closed : after (exec (.msgClose true) ready) (·.rejCause) = some 3#3 := by decide

/-- E6. -/
theorem test_errorCode_0A : after (exec (.errorCode 0x0A#8) ready) (·.txq) = some [0x00#8, 0x20#8, 0x20#8, 0x45#8,
    0x72#8, 0x72#8, 0x6F#8, 0x72#8, 0x3A#8, 0x20#8, 0x30#8, 0x78#8, 0x30#8, 0x41#8, 0x00#8] := by decide

/-- 95, 2.7: digits of 0xA5. -/
theorem test_errorCode_A5 : after (exec (.errorCode 0xA5#8) ready) (fun t => t.txq.drop 12) =
    some [0x41#8, 0x35#8, 0x00#8] := by decide

/-- E5. -/
theorem test_fatal : after (exec .fatal ready) (fun t => (t.txq, t.halted)) = some ([0x00#8, 0x2D#8, 0x2D#8, 0x2D#8,
    0x45#8, 0x52#8, 0x52#8, 0x4F#8, 0x52#8, 0x2D#8, 0x2D#8, 0x2D#8, 0x0A#8, 0x00#8, 0xFF#8], true) := by decide

/-- 95, 2.8: FATAL in an open message emits 16 bytes and closes it. -/
theorem test_fatal_in_message : after (exec .fatal opened) (fun t => (t.txq.take 2, t.txq.length, t.msgOpen)) =
    some ([0x00#8, 0x00#8], 16, false) := by decide

/-! ### One step of the machine -/

/-- 95, 2.9: with a message open, READ in IDLE reports cause 2, and word 0 cause 1. -/
theorem test_priority : after (step (offer 0x020000000000000000#72 opened)) (·.rejCause) = some 2#3 ∧
    after (step (offer 0#72 opened)) (·.rejCause) = some 1#3 := by decide

/-- 95, 2.8: after the halt word 0 changes nothing. -/
theorem test_halted_word : after (step (offer 0#72 stopped)) (·.cmdRejected) = some false := by decide

/-- R101's example: 0x80 to register 0x6B of device 0x68. -/
theorem test_reset_write : after (step { turnOf ready with initState := 1#4, draws := [set80] })
    (fun t => (t.bus, t.initState, t.pollCount)) = some ([.write 0x68#7 0x6B#8 0x80#8 true], 2#4, 0#32) := by decide

/-- 95, 2.2: a failed poll is tested on its byte. -/
theorem test_failed_poll_clear : after (step { turnOf ready with initState := 2#4, draws := [answerOf false 0x00#8] })
    (fun t => (t.initState, t.busErr, t.delay)) = some (3#4, true, 1#32) := by decide

/-- 95, 2.2: saturation. -/
theorem test_poll_saturates : after (step { turnOf ready with
      initState := 2#4, pollCount := 0xFFFFFFFF#32, draws := [set80] }) (fun t => (t.initState, t.pollCount)) =
    some (2#4, 0xFFFFFFFF#32) := by decide

/-- 95, 2.2: `POLL_LIMIT` = 1 times out after 1 poll; a clear reading at the limit does not. -/
theorem test_poll_limit :
    after (step { turnOf ready with initState := 2#4, cfg := { p1 with pollLimit := 1#32 }, draws := [set80] })
      (·.status) = some 0x0008#16 ∧
    after (step { turnOf ready with initState := 2#4, cfg := { p1 with pollLimit := 1#32 }, draws := [clear40] })
      (·.initState) = some 3#4 := by decide

/-- 95, 2.10: a reset discards ten waiting bytes. -/
theorem test_reset_discards : after (step { ready with
      events := [.rst], txq := List.replicate 10 0x00#8, initState := 2#4 })
    (fun t => (t.txq, t.out, t.status)) = some ([], [], 0x0000#16) := by decide

theorem test_transport_takes : after (step { ready with events := [.transport true], txq := [0xFA#8] })
    (fun t => (t.txq, t.out)) = some ([], [0xFA#8]) := by decide

/-- The word placed for the host runs at the next step from reset. -/
theorem test_placed_word : after (step (State.reset.withFetchWord 72 0x150000000000000078)) (·.status) =
    some 0x0380#16 := by decide

/-! ### Witnesses: states that meet the hypotheses of each statement -/

theorem ready_inv : Inv ready := by
  constructor <;> decide

theorem resetWr_inv : Inv { ready with initState := 1#4 } := by
  constructor <;> decide

theorem witness_OpcodeMapAndOperandFields :
    (encode .init).extractLsb' 64 8 = 0x01#8 ∧ (encode .read).extractLsb' 64 8 = 0x02#8 ∧
    (encode (.loadAux 1#32 2#16 3#8 4#8)).extractLsb' 64 8 = 0x03#8 ∧
    (encode .dataStart).extractLsb' 64 8 = 0x10#8 ∧ (encode .dataElement).extractLsb' 64 8 = 0x11#8 ∧
    (encode .dataEnd).extractLsb' 64 8 = 0x12#8 ∧ (encode .heartbeat).extractLsb' 64 8 = 0x13#8 ∧
    (encode .msgOpen).extractLsb' 64 8 = 0x14#8 ∧ (encode (.msgChar 0xFF#8)).extractLsb' 64 8 = 0x15#8 ∧
    (encode (.msgClose true)).extractLsb' 64 8 = 0x16#8 ∧ (encode (.errorCode 0#8)).extractLsb' 64 8 = 0x17#8 ∧
    (encode .fatal).extractLsb' 64 8 = 0x1F#8 := by decide

/-- The ends of every range of unassigned opcodes, and an accepted word in and out of the halt. -/
theorem witness_UnassignedOpcodesRejected :
    (Unassigned 0x00#8 ∧ Unassigned 0x04#8 ∧ Unassigned 0x0F#8 ∧ Unassigned 0x18#8 ∧ Unassigned 0x1E#8 ∧
      Unassigned 0x20#8 ∧ Unassigned 0xFF#8) ∧
    (¬ Unassigned 0x01#8 ∧ ¬ Unassigned 0x03#8 ∧ ¬ Unassigned 0x10#8 ∧ ¬ Unassigned 0x17#8 ∧ ¬ Unassigned 0x1F#8) ∧
    Accepts (offer 0#72 ready) 0#72 ∧ Accepts (offer 0#72 stopped) 0#72 ∧
    Unassigned ((0#72 : Command).extractLsb' 64 8) := by
  refine ⟨?_, ?_, ⟨by decide, rfl, by decide⟩, ⟨by decide, rfl, by decide⟩, ?_⟩ <;> (unfold Unassigned; decide)

/-- Operands at the ends of their ranges, in and out, and texts of both kinds. -/
theorem witness_AssembledLinesDecode :
    AuxFits (2 ^ 32 - 1) 65535 255 0 ∧ ¬ AuxFits (2 ^ 32) 0 0 0 ∧ ¬ AuxFits 0 0 0 256 ∧
    (∀ c, c ∈ [0, 127] → c < 2 ^ 7) ∧ (∃ c, c ∈ [0, 128] ∧ 2 ^ 7 ≤ c) ∧
    (Line.msgChar 65).assemble = some [wordOf 0x15 65] := by
  refine ⟨?_, ?_, ?_, by decide, ⟨128, by decide, by decide⟩, by decide⟩ <;> (unfold AuxFits; decide)

theorem witness_SampleOrderIrrelevant : ∃ a a' b b',
    exec (.loadAux 1#32 2#16 3#8 4#8) configured = .next a ∧ exec .read a = .next a' ∧
    exec .read configured = .next b ∧ exec (.loadAux 1#32 2#16 3#8 4#8) b = .next b' :=
  ⟨_, _, _, _, rfl, rfl, rfl, rfl⟩

theorem witness_StepRunsDecodedCommand :
    Accepts (offer (encode .heartbeat) ready) (encode .heartbeat) ∧ decode (encode .heartbeat) = .ok .heartbeat :=
  ⟨⟨by decide, rfl, by decide⟩, rfl⟩

theorem witness_PlacedWordRunsNext : ready.safe = true ∧ ready.transient = false ∧
    ({ ready with txq := [0x01#8] }).transient = false ∧
    decodeTableWord 72 0x130000000000000000 = some .heartbeat := by decide

theorem witness_WordWaitsWhileBusy : ({ ready with txq := [0x01#8] }).cmdReady = false ∧
    ({ ready with initState := 2#4 }).cmdReady = false := by decide

/-- A word waits behind a byte; no word is presented to an idle block. -/
theorem witness_IdleTurnChangesNothing :
    ({ offer (encode .fatal) ready with txq := [0x01#8] }).safe = true ∧
    ({ offer (encode .fatal) ready with txq := [0x01#8] }).event = .controller (some (encode .fatal)) ∧
    ({ offer (encode .fatal) ready with txq := [0x01#8] }).txq ≠ [] ∧
    (turnOf configured).event = .controller none ∧ (turnOf configured).initState = 7#4 :=
  ⟨by decide, rfl, by decide, rfl, rfl⟩

theorem witness_BrokenConfigurationRefused :
    ({ p1 with resetMask := 0#8 }).resetMask = 0#8 ∧ 0xFF < (0xF3#8).toNat + 13 ∧
    ready.cfg.resetMask ≠ 0#8 ∧ (0xF2#8).toNat + 13 ≤ 0xFF ∧ ready.cfg.burstStartReg.toNat + 13 ≤ 0xFF ∧
    (2 ^ 32 - 1 < 2 ^ 32 ∧ ¬ 2 ^ 32 < 2 ^ 32) := by decide

theorem witness_UnnamedCodesFault :
    ready.cfg.wellFormed = true ∧ (turnOf ready).event ≠ .rst ∧
    9 ≤ ({ turnOf ready with initState := 9#4 }).initState.toNat ∧
    ({ turnOf ready with initState := 8#4, rejCause := 5#3 }).initState.toNat ≤ 8 ∧
    5 ≤ ({ turnOf ready with initState := 8#4, rejCause := 5#3 }).rejCause.toNat := by decide

theorem witness_ConfigurationNeverChanges : ∃ t, Steps 1 (offer (encode .init) ready) t := ⟨_, rfl⟩

theorem witness_ResetSetsEverythingAndIsTheOnlyWayOut :
    (ready.cfg.wellFormed = true ∧ ({ ready with events := [.rst] }).event = .rst) ∧
    (turnOf ready).event ≠ .rst ∧
    (∃ t, step { turnOf ready with
      initState := 7#4, cmdRejected := true, rejCause := 4#3, busErr := true, halted := true } = .next t) ∧
    (∃ t, step { turnOf ready with initState := 8#4 } = .next t) ∧
    ((∃ t, step { turnOf ready with initState := 2#4, draws := [set80] } = .next t) ∧ ready.cfg.pollLimit = 0#32 ∧
      readsClear p1 set80 = false) :=
  ⟨by decide, by decide, ⟨_, rfl⟩, ⟨_, rfl⟩, ⟨_, rfl⟩, by decide⟩

/-- An accepted word for each clause: halted; unassigned; message open; none open; INIT and READ out of state; and
performed. -/
theorem witness_AcceptanceChecksInOrder :
    Accepts (offer 0#72 stopped) 0#72 ∧ Accepts (offer 0#72 ready) 0#72 ∧
    Accepts (offer (encode .heartbeat) opened) (encode .heartbeat) ∧
    Accepts (offer (encode (.msgChar 0#8)) ready) (encode (.msgChar 0#8)) ∧
    Accepts (offer (encode .init) configured) (encode .init) ∧ Accepts (offer (encode .read) ready) (encode .read) ∧
    Accepts (offer (encode .fatal) opened) (encode .fatal) ∧ Accepts (offer (encode .init) ready) (encode .init) ∧
    stopped.halted = true ∧ ready.halted = false ∧ opened.halted = false ∧ opened.msgOpen = true ∧
    ready.msgOpen = false ∧ configured.initState ≠ 0#4 ∧ ready.initState ≠ 7#4 :=
  ⟨⟨by decide, rfl, by decide⟩, ⟨by decide, rfl, by decide⟩, ⟨by decide, rfl, by decide⟩,
    ⟨by decide, rfl, by decide⟩, ⟨by decide, rfl, by decide⟩, ⟨by decide, rfl, by decide⟩,
    ⟨by decide, rfl, by decide⟩, ⟨by decide, rfl, by decide⟩, by decide⟩

/-- The states of the clauses of a command that needs a closed message: halted, open, and neither. -/
theorem closed_command_clauses : stopped.halted = true ∧ (opened.halted = false ∧ opened.msgOpen = true) ∧
    (ready.halted = false ∧ ready.msgOpen = false) := by decide

/-- And of one that needs an open message. -/
theorem open_command_clauses : stopped.halted = true ∧ (ready.halted = false ∧ ready.msgOpen = false) ∧
    (opened.halted = false ∧ opened.msgOpen = true) := by decide

theorem witness_InitStartsTheSequence : stopped.halted = true ∧ (opened.halted = false ∧ opened.msgOpen = true) ∧
    (configured.halted = false ∧ configured.msgOpen = false ∧ configured.initState ≠ 0#4) ∧
    (ready.halted = false ∧ ready.msgOpen = false ∧ ready.initState = 0#4) := by decide

theorem witness_ReadFillsTheMotionFields : nextAnswer configured = ⟨true, burst.data⟩ ∧ stopped.halted = true ∧
    (opened.halted = false ∧ opened.msgOpen = true) ∧
    (ready.halted = false ∧ ready.msgOpen = false ∧ ready.initState ≠ 7#4) ∧
    (configured.halted = false ∧ configured.msgOpen = false ∧ configured.initState = 7#4) := by decide

theorem witness_LoadAuxStoresTheHostFields : stopped.halted = true ∧ (opened.halted = false ∧ opened.msgOpen = true) ∧
    (ready.halted = false ∧ ready.msgOpen = false) := closed_command_clauses

theorem witness_DataStartEmitsItsTag : stopped.halted = true ∧ (opened.halted = false ∧ opened.msgOpen = true) ∧
    (ready.halted = false ∧ ready.msgOpen = false) := closed_command_clauses

theorem witness_DataElementEmitsTheRecord : stopped.halted = true ∧ (opened.halted = false ∧ opened.msgOpen = true) ∧
    (e1.halted = false ∧ e1.msgOpen = false) := closed_command_clauses

theorem witness_DataEndEmitsItsTag : stopped.halted = true ∧ (opened.halted = false ∧ opened.msgOpen = true) ∧
    (ready.halted = false ∧ ready.msgOpen = false) := closed_command_clauses

theorem witness_HeartbeatEmitsItsTag : stopped.halted = true ∧ (opened.halted = false ∧ opened.msgOpen = true) ∧
    (ready.halted = false ∧ ready.msgOpen = false) := closed_command_clauses

theorem witness_MsgOpenEmitsTheTagAndOpens : stopped.halted = true ∧ (opened.halted = false ∧ opened.msgOpen = true) ∧
    (ready.halted = false ∧ ready.msgOpen = false) := closed_command_clauses

theorem witness_ErrorCodeEmitsOneMessage : stopped.halted = true ∧ (opened.halted = false ∧ opened.msgOpen = true) ∧
    (ready.halted = false ∧ ready.msgOpen = false) := closed_command_clauses

theorem witness_MsgCharEmitsTheByte : stopped.halted = true ∧ (ready.halted = false ∧ ready.msgOpen = false) ∧
    (opened.halted = false ∧ opened.msgOpen = true) := open_command_clauses

theorem witness_MsgCloseTerminatesTheMessage : stopped.halted = true ∧
    (ready.halted = false ∧ ready.msgOpen = false) ∧ (opened.halted = false ∧ opened.msgOpen = true) :=
  open_command_clauses

theorem witness_FatalEmitsItsFramesAndHalts : (stopped.busy = false ∧ stopped.halted = true) ∧
    (opened.busy = false ∧ opened.halted = false) ∧ (ready.busy = false ∧ ready.halted = false) := by decide

theorem witness_ResetWriteStep : FsmTurn { turnOf ready with initState := 1#4 } 1#4 := ⟨by decide, ⟨none, rfl⟩, rfl⟩

/-- The poll reads clear; reads set at the limit 1; reads set below the limit 2, and with none. -/
theorem witness_PollStep :
    FsmTurn { turnOf ready with initState := 2#4, draws := [clear40] } 2#4 ∧
    (1#32 : Word).toNat = min (ready.pollCount.toNat + 1) (2 ^ 32 - 1) ∧
    (0xFFFFFFFF#32 : Word).toNat = min ((0xFFFFFFFF#32 : Word).toNat + 1) (2 ^ 32 - 1) ∧
    readsClear p1 clear40 = true ∧ readsClear p1 set80 = false ∧ (1#32 : Word) ≠ 0#32 ∧
    (1#32 : Word).toNat ≤ (1#32 : Word).toNat ∧ p1.pollLimit = 0#32 ∧ (1#32 : Word).toNat < (2#32 : Word).toNat :=
  ⟨⟨by decide, ⟨none, rfl⟩, rfl⟩, by decide⟩

theorem witness_DelayStatesLastExactly :
    ({ turnOf ready with initState := 3#4 }).safe = true ∧ ({ turnOf ready with initState := 5#4 }).safe = true ∧
    (turnOf ready).event = .controller none ∧ ready.delay = 0#32 ∧ (1#32 : Word) ≠ 0#32 ∧
    controllerTurns { ready with
      initState := 3#4, delay := 1#32, events := [.controller none, .controller none] } 2 = 2 ∧
    controllerTurns { turnOf ready with initState := 5#4 } 1 = 1 := by decide

theorem witness_SignalPathResetStep : FsmTurn { turnOf ready with initState := 4#4 } 4#4 :=
  ⟨by decide, ⟨none, rfl⟩, rfl⟩

theorem witness_ClockWriteStep : FsmTurn { turnOf ready with initState := 6#4 } 6#4 ∧ ready.txq = [] :=
  ⟨⟨by decide, ⟨none, rfl⟩, rfl⟩, rfl⟩

/-- 95, 2.2, first row: k = 2, `T_SETTLE` = 1, `T_SPR` = 0, nine controller steps. -/
def nine : State := { ready with
  events := .controller (some (encode .init)) :: (List.replicate 8 none).map Event.controller,
  draws := [set80, set80, clear40, set80, set80] }

theorem witness_InitTakesExactSteps :
    nine.safe = true ∧ nine.initState = 0#4 ∧ nine.txq = [] ∧ nine.halted = false ∧ nine.msgOpen = false ∧
    2 = [set80].length + 1 ∧ 9 = 6 + 2 + nine.cfg.tSettle.toNat + nine.cfg.tSpr.toNat ∧
    (List.replicate 8 (none : Option Command)).length + 1 = 9 ∧
    nine.events = .controller (some (encode .init)) :: (List.replicate 8 none).map Event.controller ++ [] ∧
    nine.draws = set80 :: [set80] ++ [clear40, set80, set80] ++ [] ∧
    (∀ a, a ∈ [set80] → readsClear nine.cfg a = false) ∧ readsClear nine.cfg clear40 = true ∧
    nine.cfg.pollLimit = 0#32 := by decide

/-- POLL with three polls that read set, a word presented at one turn and the transport's turn between. -/
def polling : State := { ready with
  initState := 2#4, draws := [set80, set80, set80],
  events := [.controller none, .transport true, .controller (some (encode .fatal))] }

theorem witness_NeverClearingDeviceHangs : polling.safe = true ∧ polling.initState = 2#4 ∧ polling.txq = [] ∧
    polling.cfg.pollLimit = 0#32 ∧ NoReset 3 polling ∧
    ∀ j, j < 3 → readsClear polling.cfg (polling.drawAt j) = false := by
  unfold NoReset; decide

/-- `POLL_LIMIT` = 2 and two polls that read set. -/
def bounded : State := { ready with
  initState := 2#4, cfg := { p1 with pollLimit := 2#32 }, draws := [set80, set80],
  events := [.controller none, .controller none] }

theorem witness_BoundedPollTimesOut : bounded.safe = true ∧ bounded.initState = 2#4 ∧ bounded.pollCount = 0#32 ∧
    bounded.txq = [] ∧ bounded.cfg.pollLimit.toNat = 2 ∧ 0 < 2 ∧ controllerTurns bounded 2 = 2 ∧
    ∀ j, j < 2 → readsClear bounded.cfg (bounded.drawAt j) = false := by decide

/-- RESET_WR with the first poll clear, and seven of the controller's turns among eight. -/
def ending : State := { ready with
  initState := 1#4, draws := [set80, clear40],
  events := .transport true :: List.replicate 7 (.controller none) }

theorem ending_inv : Inv ending := by
  constructor <;> decide

theorem witness_InitEndsWithinABound : Inv ending ∧ ending.transient = true ∧ NoReset 8 ending ∧ 0 < 1 ∧
    readsClear ending.cfg (ending.drawAt 1) = true ∧
    1 + 5 + ending.cfg.tSettle.toNat + ending.cfg.tSpr.toNat ≤ controllerTurns ending 8 :=
  ⟨ending_inv, by decide, by unfold NoReset; decide, by decide, by decide, by decide⟩

theorem witness_TransportTakesOneByte : (∃ t, step { ready with events := [.transport true], txq := [0x01#8] } = .next t ∧
      t.out ≠ ready.out) ∧ ready.safe = true ∧
    (({ ready with events := [.transport true], txq := [0x01#8] }).event = .transport true ∧
      ({ ready with events := [.transport true], txq := [0x01#8] }).txq = 0x01#8 :: []) ∧
    ({ ready with events := [.transport false] }).event = .transport false ∧ ready.txq = [] ∧
    ({ ready with txq := [0x01#8] }).txq ≠ [] := ⟨⟨_, rfl, by decide⟩, by decide⟩

theorem witness_StreamOnlyGrows : (∃ t, Steps 1 { ready with events := [.transport true], txq := [0x01#8] } t) ∧
    NoReset 1 { ready with events := [.transport true], txq := [0x01#8] } :=
  ⟨⟨_, rfl⟩, by unfold NoReset; decide⟩

theorem sending_inv : Inv { turnOf ready with txq := [0x01#8] } := by
  constructor <;> decide

theorem witness_FramesAndTransactionsDoNotOverlap :
    (∃ t, step { turnOf ready with txq := [0x01#8] } = .next t) ∧ Inv { turnOf ready with txq := [0x01#8] } ∧
    (turnOf ready).event ≠ .rst ∧ ({ turnOf ready with txq := [0x01#8] }).txq ≠ [] :=
  ⟨⟨_, rfl⟩, sending_inv, by decide, by decide⟩

theorem witness_BatchOfSamplesOnTheStream : ready.safe = true ∧ ready.transient = false ∧ ready.txq = [] ∧
    ready.halted = false ∧ ready.msgOpen = false ∧
    ({ ready with events := serve .dataStart 1 ++ serve .dataElement 21 ++ serve .dataEnd 1 }).events =
      serve .dataStart 1 ++ (List.replicate 1 (serve .dataElement 21)).flatten ++ serve .dataEnd 1 ++ [] := by decide

theorem witness_MessageOnTheStream : ready.safe = true ∧ ready.transient = false ∧ ready.txq = [] ∧
    ready.halted = false ∧ ready.msgOpen = false ∧
    ({ ready with events := serve .msgOpen 1 ++ serve (.msgChar 0x68#8) 1 ++ serve (.msgClose true) 2 }).events =
      serve .msgOpen 1 ++ ([0x68#8].map fun c => serve (.msgChar c) 1).flatten ++
        serve (.msgClose true) (if true then 2 else 1) ++ [] := by decide

theorem witness_RecordBytesDetermineTheRecord : recBytes true e1.record = recBytes true e1.record := rfl

theorem witness_HaltedBlockStaysSilent : (offer (encode .fatal) stopped).safe = true ∧
    (offer (encode .fatal) stopped).halted = true ∧ (offer (encode .fatal) stopped).transient = false ∧
    NoReset 1 (offer (encode .fatal) stopped) ∧ (offer (encode .fatal) stopped).busy = false := by
  unfold NoReset; decide

theorem witness_BusErrorLatches : (∃ t, step { ready with events := [.rst] } = .next t) ∧
    ({ ready with events := [.rst] }).event = .rst ∧
    (∃ t, step { turnOf ready with initState := 1#4, draws := [answerOf false 0#8] } = .next t) ∧
    (turnOf ready).event ≠ .rst := ⟨⟨_, rfl⟩, by decide, ⟨_, rfl⟩, by decide⟩

/-- Two states that differ only in acknowledges. -/
theorem witness_AcknowledgesDecideNothingElse :
    blind { turnOf ready with initState := 2#4, draws := [answerOf true 0#8] } =
      blind { turnOf ready with initState := 2#4, draws := [answerOf false 0#8] } ∧
    blind { ready with bus := [.write 0x68#7 0x6B#8 0x80#8 false], busErr := true } =
      blind { ready with bus := [.write 0x68#7 0x6B#8 0x80#8 true] } ∧
    ∃ t, Steps 1 { turnOf ready with initState := 2#4, draws := [answerOf true 0#8] } t := ⟨rfl, rfl, _, rfl⟩

theorem witness_BusTransactionsOfAStep : ∃ t x, step { turnOf ready with initState := 4#4, draws := [set80] } = .next t ∧
    t.bus = ready.bus ++ [x] := ⟨_, _, rfl, rfl⟩

theorem witness_RecordWriters : (∃ t, step (offer (encode .read) configured) = .next t ∧
      t.record ≠ (offer (encode .read) configured).record) ∧ (offer (encode .read) configured).event ≠ .rst :=
  ⟨⟨_, rfl, by decide⟩, by decide⟩

theorem witness_InitStateWriters : (∃ t, step { ready with events := [.rst] } = .next t) ∧
    (∃ t, step (offer (encode .init) ready) = .next t ∧ t.initState ≠ ready.initState) ∧
    (offer (encode .init) ready).event ≠ .rst := ⟨⟨_, rfl⟩, ⟨_, rfl, by decide⟩, by decide⟩

theorem witness_FailStopOnlyByFatal : ∃ t, step (offer (encode .fatal) opened) = .next t ∧ opened.halted = false ∧
    t.halted = true := ⟨_, rfl, rfl, rfl⟩

theorem offered_inv : Inv (offer (encode .read) ready) := by
  constructor <;> decide

theorem witness_RejectionIsPrecise : Inv (offer (encode .read) ready) ∧ (offer (encode .read) ready).event ≠ .rst ∧
    ∃ t, step (offer (encode .read) ready) = .next t ∧ t.rejCause ≠ (offer (encode .read) ready).rejCause :=
  ⟨offered_inv, by decide, _, rfl, by decide⟩

theorem witness_MsgOpenWriters :
    (∃ t, step (offer (encode .msgOpen) ready) = .next t ∧ t.msgOpen ≠ ready.msgOpen ∧ t.msgOpen = true) ∧
    (∃ t, step (offer (encode (.msgClose true)) opened) = .next t ∧ t.msgOpen ≠ opened.msgOpen ∧
      t.msgOpen = false) := ⟨⟨_, rfl, by decide, rfl⟩, ⟨_, rfl, by decide, rfl⟩⟩

theorem witness_CommandFrame : ∃ t, exec .dataElement e1 = .next t := ⟨_, rfl⟩

theorem witness_BusyIsTransientOrPending : Inv { ready with initState := 1#4 } := resetWr_inv

theorem witness_ResetMeetsTheInvariant : p1.wellFormed = true ∧ polling.cfg.wellFormed = true := by decide

theorem witness_EveryStepKeepsTheInvariant : Inv { turnOf ready with txq := [0x01#8] } ∧
    ∃ t, step { turnOf ready with txq := [0x01#8] } = .next t := ⟨sending_inv, _, rfl⟩

theorem witness_NoRunStops : Inv ready := ready_inv

end Sys2Proof.Tests
end

section
/-! PROOFS. The scope of the model (00_scope.md): no run changes the configuration, an accepted word runs its command,
and exactly the configurations that break R8 are refused. -/

namespace Sys2Proof.Machine

open Sys2Proof.Claims

variable {s t : State}

/-! ### What each operation does to the configuration -/

@[simp] theorem fsmStep_cfg (s : State) : (fsmStep s).cfg = s.cfg := by
  unfold fsmStep
  split <;> simp

@[simp] theorem effectOf_cfg (i : Instr) (s : State) : (effectOf i s).cfg = s.cfg := by
  cases i <;> simp [effectOf]

@[simp] theorem transportStep_cfg (ready : Bool) (s : State) : (s.transportStep ready).cfg = s.cfg := by
  obtain ⟨_, _, _, _, h⟩ | ⟨_, h⟩ := transportStep_cases s ready <;> rw [h]

theorem acceptWord_cfg {w : Command} (h : acceptWord w s = .next t) : t.cfg = s.cfg := by
  obtain ⟨_, rfl⟩ | ⟨_, c, _, rfl⟩ | ⟨_, i, _, _, rfl⟩ := acceptWord_cases h
  · rfl
  · exact State.raiseReject_cfg s c
  · exact effectOf_cfg i s

theorem controllerStep_cfg {cmd : Option Command} (h : controllerStep cmd s = .next t) : t.cfg = s.cfg := by
  obtain ⟨_, rfl⟩ | ⟨_, _, rfl⟩ | ⟨_, _, w, _, hw⟩ := controllerStep_cases h
  · exact fsmStep_cfg s
  · rfl
  · exact acceptWord_cfg hw

theorem step_cfg (h : step s = .next t) : t.cfg = s.cfg := by
  obtain ⟨_, ⟨_, rfl⟩ | ⟨cmd, _, _, hc⟩ | ⟨ready, _, _, rfl⟩⟩ := step_cases h
  · simp
  · exact (controllerStep_cfg hc).trans s.tick_cfg
  · simp

/-- Settles O13, by induction on the number of steps: each step keeps the configuration. -/
theorem configurationNeverChanges : Obligations.ConfigurationNeverChanges := by
  intro n
  induction n with
  | zero =>
    intro s t h
    rw [steps_zero.mp h]
  | succ n ih =>
    intro s t h
    obtain ⟨u, hstep, hrun⟩ := steps_succ.mp h
    exact (ih u t hrun).trans (step_cfg hstep)

/-! ### The step of an accepted word -/

theorem safe_iff : s.safe = true ↔ s.cfg.wellFormed = true ∧ s.unnamedCode = none := by
  simp [State.safe]

theorem busy_eq_false_iff : s.busy = false ↔ s.transient = false ∧ s.txq = [] := by
  simp [State.busy]

/-- With R8 kept, a step is the turn of the agent that the environment's choice names. -/
theorem step_of_wellFormed (h : s.cfg.wellFormed = true) : step s = turn s.event s.tick := if_pos h

/-- With both codes named, the controller's turn is its step. -/
theorem turn_controller (h : s.unnamedCode = none) (cmd : Option Command) :
    turn (.controller cmd) s = controllerStep cmd s := by
  simp only [turn, h]

/-- A presented word is accepted with `BUSY` = 0 (10_state.md R39). -/
theorem controllerStep_of_not_busy (h : s.busy = false) (w : Command) :
    controllerStep (some w) s = acceptWord w s := by
  obtain ⟨hfsm, htxq⟩ := busy_eq_false_iff.mp h
  simp [controllerStep, hfsm, htxq]

theorem acceptWord_of_decode {w : Command} {i : Instr} (h : decode w = .ok i) (s : State) :
    acceptWord w s = exec i s := by
  simp only [acceptWord, h]

/-- The step of a block that accepts a word, whether or not the word decodes. -/
theorem step_of_accepts {w : Command} (h : Accepts s w) : step s = acceptWord w (ticked s) := by
  obtain ⟨hsafe, hevent, hbusy⟩ := h
  obtain ⟨hcfg, hnamed⟩ := safe_iff.mp hsafe
  calc step s
    _ = turn (.controller (some w)) s.tick := by rw [step_of_wellFormed hcfg, hevent]
    _ = controllerStep (some w) s.tick := turn_controller (s := s.tick) hnamed (some w)
    _ = acceptWord w (ticked s) := controllerStep_of_not_busy (s := s.tick) hbusy w

/-- Settles O8: the step accepts the word, and acceptance runs the decoded command. -/
theorem stepRunsDecodedCommand : Obligations.StepRunsDecodedCommand := by
  intro s w i haccepts hdecode
  rw [step_of_accepts haccepts, acceptWord_of_decode hdecode]

/-! ### The constraints of R8 -/

theorem wellFormed_iff (p : Params) :
    p.wellFormed = true ↔ p.resetMask ≠ 0#8 ∧ p.burstStartReg.toNat + 13 ≤ 0xFF := by
  simp [Params.wellFormed]

theorem step_of_not_wellFormed (h : ¬ s.cfg.wellFormed = true) : step s = .refused .badConfiguration := if_neg h

/-- Only the configuration check refuses: a turn answers a next state or a fault. -/
theorem turn_ne_refused (e : Event) (s : State) (r : Refusal) : turn e s ≠ .refused r := by
  cases e with
  | rst => simp [turn]
  | controller cmd =>
    obtain ⟨t, ht⟩ := controllerStep_next cmd s
    cases hcode : s.unnamedCode <;> simp [turn, hcode, ht]
  | transport ready => cases hcode : s.unnamedCode <;> simp [turn, hcode]

/-- A delay that does not fit the 32-bit counter gives no configuration. -/
theorem withDelays_eq_none (p : Params) {m n : Nat} (h : 2 ^ 32 ≤ m ∨ 2 ^ 32 ≤ n) : p.withDelays m n = none :=
  if_neg (by omega)

/-- Delays that fit are loaded as they are. -/
theorem withDelays_eq_some (p : Params) {m n : Nat} (hm : m < 2 ^ 32) (hn : n < 2 ^ 32) :
    p.withDelays m n = some { p with tSettle := BitVec.ofNat 32 m, tSpr := BitVec.ofNat 32 n } :=
  if_pos ⟨hm, hn⟩

/-- Settles O11: the refusal is the failed check of R8, no turn refuses, and `withDelays` tests the delays' bound. -/
theorem brokenConfigurationRefused : Obligations.BrokenConfigurationRefused := by
  refine ⟨fun s hbroken => ?_, fun s hmask hreg r => ?_, fun p m n => ⟨withDelays_eq_none p, fun hm hn => ?_⟩⟩
  · refine step_of_not_wellFormed fun hwf => ?_
    obtain ⟨hmask, hreg⟩ := (wellFormed_iff s.cfg).mp hwf
    exact hbroken.elim hmask (Nat.not_lt.mpr hreg)
  · rw [step_of_wellFormed ((wellFormed_iff s.cfg).mpr ⟨hmask, hreg⟩)]
    exact turn_ne_refused s.event s.tick r
  · refine ⟨_, withDelays_eq_some p hm hn, rfl, ?_, ?_⟩
    · exact (BitVec.toNat_ofNat m 32).trans (Nat.mod_eq_of_lt hm)
    · exact (BitVec.toNat_ofNat n 32).trans (Nat.mod_eq_of_lt hn)

end Sys2Proof.Machine
end

section
/-! PROOFS. What one step can do to the block, once, and what each of these effects leaves unchanged. -/

namespace Sys2Proof.Machine

variable {s t : State}

/-- The six effects a step can have on the block: reset (70_reset_and_hazards.md R190), an FSM step
(40_sensor_interface.md R117), a turn in which nothing happens, a rejection (60_exceptions.md R171), the performance
of a decoded command (R176), and one byte taken by the transport (41_framing.md R132). -/
inductive StepEffect (s : State) : State → Prop
  | reset (hevent : s.event = .rst) : StepEffect s s.tick.applyReset
  | fsm (cmd : Option Command) (hevent : s.event = .controller cmd) (htransient : s.transient = true) :
      StepEffect s (fsmStep s.tick)
  | wait (hevent : s.event ≠ .rst) : StepEffect s s.tick
  | reject (w : Command) (hevent : s.event = .controller (some w)) (hbusy : s.busy = false)
      (hhalted : s.halted = false) (cause : RejCause) (hcause : cause ≠ .none) : StepEffect s (s.tick.raiseReject cause)
  | perform (w : Command) (hevent : s.event = .controller (some w)) (hbusy : s.busy = false)
      (hhalted : s.halted = false) (i : Instr) (hdecode : decode w = .ok i)
      (hverdict : verdict i.opcode s = .perform) : StepEffect s (effectOf i s.tick)
  | send (hevent : s.event = .transport true) (b : Byte) (rest : List Byte) (htxq : s.txq = b :: rest) :
      StepEffect s { s.tick with txq := rest, out := s.out ++ [b] }

/-- The effects of an accepted word (R176, R178). -/
theorem stepEffect_of_acceptWord {w : Command} (hevent : s.event = .controller (some w)) (hbusy : s.busy = false)
    (h : acceptWord w s.tick = .next t) : StepEffect s t := by
  obtain ⟨_, rfl⟩ | ⟨hhalted, cause, hcause, rfl⟩ | ⟨hhalted, i, hdecode, hverdict, rfl⟩ := acceptWord_cases h
  · exact .wait (by simp [hevent])
  · exact .reject w hevent hbusy hhalted cause hcause
  · exact .perform w hevent hbusy hhalted i hdecode hverdict

/-- Every step has one of the six effects. -/
theorem step_effect (h : step s = .next t) : StepEffect s t := by
  obtain ⟨_, ⟨hevent, rfl⟩ | ⟨cmd, hevent, _, hturn⟩ | ⟨ready, hevent, _, rfl⟩⟩ := step_cases h
  · exact .reset hevent
  · obtain ⟨htransient, rfl⟩ | ⟨_, _, rfl⟩ | ⟨hstable, htxq, w, rfl, haccept⟩ := controllerStep_cases hturn
    · exact .fsm cmd hevent htransient
    · exact .wait (by simp [hevent])
    · exact stepEffect_of_acceptWord hevent (busy_eq_false_iff.mpr ⟨hstable, htxq⟩) haccept
  · obtain ⟨b, rest, rfl, htxq, hsend⟩ | ⟨_, hidle⟩ := transportStep_cases s.tick ready
    · rw [hsend]
      exact .send hevent b rest htxq
    · rw [hidle]
      exact .wait (by simp [hevent])

/-- With `rst` = 1 the step is the reset, whatever the block holds. -/
theorem eq_applyReset_of_rst (h : step s = .next t) (hrst : s.event = .rst) : t = s.tick.applyReset := by
  cases step_effect h <;> simp_all

/-! ### What an FSM step leaves unchanged -/

@[simp] theorem fsmStep_record (s : State) : (fsmStep s).record = s.record := by
  unfold fsmStep
  split <;> simp

@[simp] theorem fsmStep_txq (s : State) : (fsmStep s).txq = s.txq := by
  unfold fsmStep
  split <;> simp

@[simp] theorem fsmStep_msgOpen (s : State) : (fsmStep s).msgOpen = s.msgOpen := by
  unfold fsmStep
  split <;> simp

@[simp] theorem fsmStep_halted (s : State) : (fsmStep s).halted = s.halted := by
  unfold fsmStep
  split <;> simp

@[simp] theorem fsmStep_cmdRejected (s : State) : (fsmStep s).cmdRejected = s.cmdRejected := by
  unfold fsmStep
  split <;> simp

@[simp] theorem fsmStep_rejCause (s : State) : (fsmStep s).rejCause = s.rejCause := by
  unfold fsmStep
  split <;> simp

/-! ### What the effect of a command leaves unchanged -/

@[simp] theorem effectOf_delay (i : Instr) (s : State) : (effectOf i s).delay = s.delay := by
  cases i <;> simp [effectOf]

@[simp] theorem effectOf_pollCount (i : Instr) (s : State) : (effectOf i s).pollCount = s.pollCount := by
  cases i <;> simp [effectOf]

@[simp] theorem effectOf_cmdRejected (i : Instr) (s : State) : (effectOf i s).cmdRejected = s.cmdRejected := by
  cases i <;> simp [effectOf]

@[simp] theorem effectOf_rejCause (i : Instr) (s : State) : (effectOf i s).rejCause = s.rejCause := by
  cases i <;> simp [effectOf]

@[simp] theorem effectOf_events (i : Instr) (s : State) : (effectOf i s).events = s.events := by
  cases i <;> simp [effectOf]

@[simp] theorem effectOf_now (i : Instr) (s : State) : (effectOf i s).now = s.now := by
  cases i <;> simp [effectOf]

@[simp] theorem effectOf_out (i : Instr) (s : State) : (effectOf i s).out = s.out := by
  cases i <;> simp [effectOf]

theorem effectOf_initState {i : Instr} (hinit : i ≠ .init) (s : State) :
    (effectOf i s).initState = s.initState := by
  cases i <;> simp_all [effectOf]

theorem effectOf_busErr {i : Instr} (hread : i ≠ .read) (s : State) : (effectOf i s).busErr = s.busErr := by
  cases i <;> simp_all [effectOf]

theorem effectOf_bus {i : Instr} (hread : i ≠ .read) (s : State) : (effectOf i s).bus = s.bus := by
  cases i <;> simp_all [effectOf]

theorem effectOf_draws {i : Instr} (hread : i ≠ .read) (s : State) : (effectOf i s).draws = s.draws := by
  cases i <;> simp_all [effectOf]

theorem effectOf_drawn {i : Instr} (hread : i ≠ .read) (s : State) : (effectOf i s).drawn = s.drawn := by
  cases i <;> simp_all [effectOf]

theorem effectOf_record {i : Instr} (hread : i ≠ .read) (haux : ∀ ts an b0 b1, i ≠ .loadAux ts an b0 b1)
    (s : State) : (effectOf i s).record = s.record := by
  cases i
  case read => exact absurd rfl hread
  case loadAux ts an b0 b1 => exact absurd rfl (haux ts an b0 b1)
  all_goals rfl

/-- The sensor commands emit nothing. -/
theorem effectOf_txq_of_sensor {i : Instr}
    (hsensor : i = .init ∨ i = .read ∨ ∃ ts an b0 b1, i = .loadAux ts an b0 b1) (s : State) :
    (effectOf i s).txq = s.txq := by
  obtain rfl | rfl | ⟨ts, an, b0, b1, rfl⟩ := hsensor <;> rfl

theorem effectOf_halted {i : Instr} (hfatal : i ≠ .fatal) (s : State) : (effectOf i s).halted = s.halted := by
  cases i <;> simp_all [effectOf]

theorem effectOf_msgOpen {i : Instr} (hfatal : i ≠ .fatal) (hopen : i ≠ .msgOpen) (hclose : ∀ ln, i ≠ .msgClose ln)
    (s : State) : (effectOf i s).msgOpen = s.msgOpen := by
  cases i <;> simp_all [effectOf]

end Sys2Proof.Machine
end

section
/-! PROOFS. Who writes which element of the state (10_state.md R22, R24, R29, R32; 60_exceptions.md R171, R177). -/

namespace Sys2Proof.Machine

open Sys2Proof.Claims

variable {s t : State}

/-! ### BUS_ERR -/

/-- At most one transaction is made from `s` to `t`, and its failure, if it failed, is latched (R32). -/
def LatchesBusErr (s t : State) : Prop :=
  ∃ xs, t.bus = s.bus ++ xs ∧ xs.length ≤ 1 ∧ t.busErr = (s.busErr || xs.any fun x => !acknowledged x)

theorem latchesBusErr_of_no_transaction (hbus : t.bus = s.bus) (herr : t.busErr = s.busErr) : LatchesBusErr s t :=
  ⟨[], by simp [hbus, herr]⟩

theorem latchesBusErr_of_transaction (x : BusTransaction) (hbus : t.bus = s.bus ++ [x])
    (herr : t.busErr = (s.busErr || !acknowledged x)) : LatchesBusErr s t :=
  ⟨[x], by simp [hbus, herr]⟩

/-- The writing and the polling states make one transaction each, the delay states none (R101 to R106). -/
theorem latchesBusErr_fsmStep (htransient : s.transient = true) : LatchesBusErr s (fsmStep s) := by
  obtain ⟨_, h⟩ | ⟨_, h⟩ | ⟨_, h⟩ | ⟨_, h⟩ | ⟨_, h⟩ | ⟨_, h⟩ := transient_cases s htransient <;> rw [h]
  case inl | inr.inl | inr.inr.inr.inl | inr.inr.inr.inr.inr => exact latchesBusErr_of_transaction _ rfl rfl
  case inr.inr.inl | inr.inr.inr.inr.inl => exact latchesBusErr_of_no_transaction (by simp) (by simp)

/-- Only READ makes a transaction. -/
theorem latchesBusErr_effectOf (i : Instr) (s : State) : LatchesBusErr s (effectOf i s) := by
  by_cases hread : i = .read
  · subst hread
    exact latchesBusErr_of_transaction _ rfl rfl
  · exact latchesBusErr_of_no_transaction (effectOf_bus hread s) (effectOf_busErr hread s)

/-- Settles O45, by the step's effect: an FSM step and a performed command latch their own transaction's failure, and no
other effect but reset touches the bus or `BUS_ERR`. -/
theorem busErrorLatches : Obligations.BusErrorLatches := by
  refine ⟨rfl, fun s t hstep => ⟨fun hrst => ?_, fun hrst => ?_⟩⟩
  · simp [eq_applyReset_of_rst hstep hrst]
  · change LatchesBusErr s t
    cases step_effect hstep with
    | reset hevent => exact absurd hevent hrst
    | fsm _ _ htransient => exact latchesBusErr_fsmStep (s := s.tick) htransient
    | wait | reject | send => exact latchesBusErr_of_no_transaction rfl rfl
    | perform _ _ _ _ i => exact latchesBusErr_effectOf i s.tick

/-! ### The record -/

/-- Settles O48: of the effects of a step without a reset, only a performed READ or LOAD_AUX writes the record. -/
theorem recordWriters : Obligations.RecordWriters := by
  intro s t hstep hrst hchange
  cases step_effect hstep with
  | reset hevent => exact absurd hevent hrst
  | fsm => exact absurd (fsmStep_record _) hchange
  | wait | reject | send => exact absurd rfl hchange
  | perform w hevent hbusy hhalted i hdecode hverdict =>
    refine ⟨hhalted, hbusy, w, hevent, ?_⟩
    by_cases hread : i = .read
    · subst hread
      obtain ⟨_, _, hconfigured⟩ := (verdict_read_perform s).mp hverdict
      exact .inl ⟨hdecode, hconfigured, rfl⟩
    · by_cases haux : ∃ ts an b0 b1, i = .loadAux ts an b0 b1
      · obtain ⟨ts, an, b0, b1, rfl⟩ := haux
        exact .inr ⟨ts, an, b0, b1, hdecode, rfl⟩
      · push Not at haux
        exact absurd (effectOf_record hread haux s.tick) hchange

/-! ### INIT_STATE -/

/-- The moves of the FSM along R101 to R106. -/
abbrev FsmMove (c d : BitVec 4) : Prop :=
  (c = 1#4 ∧ d = 2#4) ∨ (c = 2#4 ∧ (d = 3#4 ∨ d = 8#4)) ∨ (c = 3#4 ∧ d = 4#4) ∨ (c = 4#4 ∧ d = 5#4) ∨
    (c = 5#4 ∧ d = 6#4) ∨ (c = 6#4 ∧ d = 7#4)

/-- A poll stays in POLL, or leads to SETTLE or INIT_TIMEOUT (R102). -/
theorem fsmPoll_initState_cases (s : State) : (fsmPoll s).initState = InitState.poll.code ∨
    (fsmPoll s).initState = InitState.settle.code ∨ (fsmPoll s).initState = InitState.initTimeout.code := by
  rw [fsmPoll_initState]
  obtain ⟨_, h⟩ | ⟨_, _, _, h⟩ | ⟨_, _, h⟩ :=
    afterPoll_cases s.cfg s.answer.data[0] (sat32 (s.pollCount.toNat + 1)) <;> simp [h]

/-- A delay state stays, or leads to its exit (R103, R105). -/
theorem delayStep_initState_cases (exit : InitState) (s : State) :
    (delayStep exit s).initState = s.initState ∨ (delayStep exit s).initState = exit.code := by
  obtain ⟨_, h⟩ | ⟨_, h⟩ := delayStep_cases s exit <;> simp [h]

/-- An FSM step stays in its state or moves along R101 to R106. -/
theorem fsmStep_initState_cases (htransient : s.transient = true) :
    (fsmStep s).initState = s.initState ∨ FsmMove s.initState (fsmStep s).initState := by
  obtain ⟨hc, h⟩ | ⟨hc, h⟩ | ⟨hc, h⟩ | ⟨hc, h⟩ | ⟨hc, h⟩ | ⟨hc, h⟩ := transient_cases s htransient <;> rw [h]
  case inl | inr.inr.inr.inl | inr.inr.inr.inr.inr =>
    right
    simp only [hc, fsmResetWr_initState, fsmSprWr_initState, fsmClkWr_initState]
    decide
  case inr.inl =>
    obtain hd | hd | hd := fsmPoll_initState_cases s <;> rw [hc, hd] <;> decide
  case inr.inr.inl =>
    obtain hd | hd := delayStep_initState_cases .sprWr s
    · exact .inl hd
    · rw [hc, fsmSettle, hd]
      decide
  case inr.inr.inr.inr.inl =>
    obtain hd | hd := delayStep_initState_cases .clkWr s
    · exact .inl hd
    · rw [hc, fsmSprDly, hd]
      decide

/-- Settles O49: of the effects of a step without a reset, only an FSM step and a performed INIT write `INIT_STATE`. -/
theorem initStateWriters : Obligations.InitStateWriters := by
  refine fun s t hstep => ⟨fun hrst => ?_, fun hrst hchange => ?_⟩
  · simp [eq_applyReset_of_rst hstep hrst]
  · cases step_effect hstep with
    | reset hevent => exact absurd hevent hrst
    | fsm cmd hevent htransient =>
      obtain hstay | hmove := fsmStep_initState_cases (s := s.tick) htransient
      · exact absurd hstay hchange
      · exact .inr ⟨⟨cmd, hevent⟩, hmove⟩
    | wait | reject | send => exact absurd rfl hchange
    | perform w hevent _ _ i hdecode hverdict =>
      by_cases hinit : i = .init
      · subst hinit
        obtain ⟨_, _, hidle⟩ := (verdict_init_perform s).mp hverdict
        exact .inl ⟨hidle, rfl, w, hevent, hdecode⟩
      · exact absurd (effectOf_initState hinit s.tick) hchange

/-! ### MSG_OPEN -/

/-- Settles O52: but for reset, only a performed MSG_OPEN, MSG_CLOSE or FATAL writes `MSG_OPEN`. -/
theorem msgOpenWriters : Obligations.MsgOpenWriters := by
  intro s t hstep hchange
  cases step_effect hstep with
  | reset hevent => exact ⟨by simp, fun _ => .inl hevent⟩
  | fsm => exact absurd (fsmStep_msgOpen _) hchange
  | wait | reject | send => exact absurd rfl hchange
  | perform w hevent hbusy _ i hdecode =>
    by_cases hopen : i = .msgOpen
    · subst hopen
      exact ⟨fun _ => ⟨hbusy, w, hevent, hdecode⟩, by simp [effectOf]⟩
    by_cases hfatal : i = .fatal
    · subst hfatal
      exact ⟨by simp [effectOf], fun _ => .inr ⟨hbusy, w, hevent, .inr hdecode⟩⟩
    by_cases hclose : ∃ ln, i = .msgClose ln
    · obtain ⟨ln, rfl⟩ := hclose
      exact ⟨by simp [effectOf], fun _ => .inr ⟨hbusy, w, hevent, .inl ⟨ln, hdecode⟩⟩⟩
    · push Not at hclose
      exact absurd (effectOf_msgOpen hfatal hopen hclose s.tick) hchange

/-! ### The frame of each command -/

/-- Settles O53: a dropped command changes nothing, a rejected one only the rejection's two fields, and a performed
one what its effect writes. -/
theorem commandFrame : Obligations.CommandFrame := by
  intro i s t h
  rw [exec_eq_accept] at h
  obtain ⟨_, rfl⟩ | ⟨_, cause, _, rfl⟩ | ⟨_, _, rfl⟩ := accept_cases s h
  · simp
  · simp
  · exact ⟨by simp, (effectOf_initState · s),
      fun hread => ⟨effectOf_busErr hread s, effectOf_bus hread s, effectOf_draws hread s, effectOf_drawn hread s⟩,
      (effectOf_record · · s), (effectOf_txq_of_sensor · s), (effectOf_halted · s), (effectOf_msgOpen · · · s)⟩

end Sys2Proof.Machine
end

section
/-! PROOFS. The invariant of the block: it holds after reset, and every step keeps it. -/

namespace Sys2Proof.Machine

variable {s t : State}

/-! ### The invariant by groups of registers -/

/-- `DELAY` and `POLL_COUNT` are within their bounds in an initialization state (10_state.md R26,
40_sensor_interface.md R102, R103, R105, R108). -/
def CountersSound (p : Params) (delay count : Word) : InitState → Prop
  | .settle => delay.toNat ≤ p.tSettle.toNat
  | .sprDly => delay.toNat ≤ p.tSpr.toNat
  | .poll => delay = 0#32 ∧ (p.pollLimit ≠ 0#32 → count.toNat < p.pollLimit.toNat)
  | .initTimeout => delay = 0#32 ∧ p.pollLimit ≠ 0#32 ∧ count = p.pollLimit
  | .idle | .resetWr | .sprWr | .clkWr | .configured => delay = 0#32

/-- `INIT_STATE` is named, and the counters are sound in the state it names. -/
def FsmSound (p : Params) (code : BitVec 4) (delay count : Word) : Prop :=
  ∃ i : InitState, code = i.code ∧ CountersSound p delay count i

/-- The counters are sound in the state whose code `INIT_STATE` holds. -/
theorem FsmSound.counters {p : Params} {code : BitVec 4} {delay count : Word} {i : InitState}
    (h : FsmSound p code delay count) (hcode : code = i.code) : CountersSound p delay count i := by
  obtain ⟨j, hj, hcounters⟩ := h
  obtain rfl := code_inj.mp (hj.symm.trans hcode)
  exact hcounters

/-- The cause is named, and recorded exactly when a command was rejected (R31, 60_exceptions.md R170). -/
def CauseSound (rejected : Bool) (cause : BitVec 3) : Prop :=
  cause.toNat ≤ 4 ∧ (rejected = true ↔ cause ≠ 0#3)

/-- Codes up to 8 are the named ones (R23). -/
theorem code_le_iff {c : BitVec 4} : c.toNat ≤ 8 ↔ ∃ i : InitState, c = i.code := by
  constructor
  · intro h
    have hnamed : ∀ c : BitVec 4, c.toNat ≤ 8 → InitState.ofCode c ≠ none := by decide
    obtain ⟨i, hi⟩ := Option.ne_none_iff_exists'.mp (hnamed c h)
    exact ⟨i, ofCode_eq_some.mp hi⟩
  · rintro ⟨i, rfl⟩
    cases i <;> decide

theorem Inv.fsmSound (h : Inv s) : FsmSound s.cfg s.initState s.delay s.pollCount := by
  obtain ⟨i, hi⟩ := code_le_iff.mp ((unnamedCode_eq_none s).mp h.named).1
  refine ⟨i, hi, ?_⟩
  have hzero : i ≠ .settle → i ≠ .sprDly → s.delay = 0#32 := by simpa [hi] using h.delayElse
  cases i with
  | settle => exact h.delaySettle hi
  | sprDly => exact h.delaySpr hi
  | poll => exact ⟨hzero (by decide) (by decide), h.polling hi⟩
  | initTimeout => exact ⟨hzero (by decide) (by decide), h.timeout hi⟩
  | idle | resetWr | sprWr | clkWr | configured => exact hzero (by decide) (by decide)

/-- The invariant by groups: configuration, FSM and counters, causes, the stream and the message, and what a transient
FSM excludes. -/
theorem inv_iff : Inv s ↔ s.cfg.wellFormed = true ∧ FsmSound s.cfg s.initState s.delay s.pollCount ∧
    CauseSound s.cmdRejected s.rejCause ∧ s.txq.length ≤ 21 ∧ (s.halted = true → s.msgOpen = false) ∧
    (s.transient = true → s.txq = [] ∧ s.halted = false ∧ s.msgOpen = false) := by
  constructor
  · intro h
    refine ⟨h.configured, h.fsmSound, ⟨((unnamedCode_eq_none s).mp h.named).2, h.caused⟩, h.short, h.haltedClosed,
      fun htransient => ⟨h.exclusive htransient, ?_, h.closedInit htransient⟩⟩
    by_contra hhalted
    simp [h.haltedStable (by simpa using hhalted)] at htransient
  · rintro ⟨hcfg, hfsm, ⟨hnamed, hcaused⟩, hshort, hclosed, hquiet⟩
    have ⟨i, hi, hcounters⟩ := hfsm
    exact {
      configured := hcfg
      named := (unnamedCode_eq_none s).mpr ⟨code_le_iff.mpr ⟨i, hi⟩, hnamed⟩
      exclusive := fun htransient => (hquiet htransient).1
      short := hshort
      caused := hcaused
      haltedClosed := hclosed
      haltedStable := fun hhalted => by
        by_contra htransient
        simp [(hquiet (by simpa using htransient)).2.1] at hhalted
      closedInit := fun htransient => (hquiet htransient).2.2
      delaySettle := fun hc => hfsm.counters hc
      delaySpr := fun hc => hfsm.counters hc
      delayElse := fun hsettle hspr => by
        cases i with
        | settle => exact absurd hi hsettle
        | sprDly => exact absurd hi hspr
        | poll | initTimeout => exact hcounters.1
        | idle | resetWr | sprWr | clkWr | configured => exact hcounters
      polling := fun hc => (hfsm.counters hc).2
      timeout := fun hc => (hfsm.counters hc).2 }

/-! ### Reset -/

theorem inv_resetWith {p : Params} (h : p.wellFormed = true) : Inv (State.resetWith p) :=
  inv_iff.mpr ⟨h, ⟨.idle, rfl, rfl⟩, by simp [State.resetWith, CauseSound], by simp [State.resetWith],
    fun _ => rfl, fun _ => ⟨rfl, rfl, rfl⟩⟩

/-- A reset leaves the environment's lists and the observations, of which the invariant says nothing. -/
theorem inv_applyReset (h : s.cfg.wellFormed = true) : Inv s.applyReset :=
  (inv_iff (s := s.applyReset)).mpr (inv_iff (s := .resetWith s.cfg) |>.mp (inv_resetWith h))

/-- Settles O56, from the reset values at any sound configuration. -/
theorem resetMeetsTheInvariant : Obligations.ResetMeetsTheInvariant :=
  ⟨inv_resetWith rfl, fun _ => inv_resetWith, fun _ => inv_applyReset⟩

/-! ### Each effect of a step keeps the invariant -/

/-- The invariant says nothing of the environment's lists. -/
theorem Inv.tick (h : Inv s) : Inv s.tick := (inv_iff (s := s.tick)).mpr (inv_iff (s := s) |>.mp h)

theorem Inv.raiseReject (h : Inv s) {cause : RejCause} (hcause : cause ≠ .none) : Inv (s.raiseReject cause) := by
  obtain ⟨hcfg, hfsm, ⟨hnamed, _⟩, hrest⟩ := inv_iff.mp h
  exact inv_iff.mpr ⟨hcfg, hfsm, ⟨firstCause_named hnamed cause, by simp [firstCause_ne hcause]⟩, hrest⟩

/-- The transport takes a byte of the queue only in a stable state. -/
theorem Inv.send (h : Inv s) {b : Byte} {rest out : List Byte} (htxq : s.txq = b :: rest) :
    Inv { s with txq := rest, out := out } := by
  obtain ⟨hcfg, hfsm, hcause, hshort, hclosed, hquiet⟩ := inv_iff.mp h
  refine inv_iff.mpr ⟨hcfg, hfsm, hcause, ?_, hclosed, fun htransient => ?_⟩
  · rw [htxq, List.length_cons] at hshort
    exact Nat.le_of_succ_le hshort
  · obtain ⟨hempty, _⟩ := hquiet htransient
    cases htxq.symm.trans hempty

/-! #### FSM steps -/

theorem toNat_pos_of_ne_zero {x : Word} (h : x ≠ 0#32) : 0 < x.toNat := by
  bv_omega

theorem toNat_sub_one_le {x : Word} (h : x ≠ 0#32) : (x - 1#32).toNat ≤ x.toNat := by
  bv_omega

theorem sat32_toNat {n : Nat} (h : n < 2 ^ 32) : (sat32 n).toNat = n := by
  rw [sat32, BitVec.toNat_ofNat]
  omega

/-- A poll that reads clear loads `T_SETTLE`; one that does not has counted at most up to the limit (R102). -/
theorem countersSound_fsmPoll {p : Params} {delay count : Word} (h : CountersSound p delay count .poll) (b : Byte) :
    CountersSound p (if b &&& p.resetMask = 0#8 then p.tSettle else delay) (sat32 (count.toNat + 1))
      (afterPoll p b (sat32 (count.toNat + 1))) := by
  obtain ⟨hzero, hbelow⟩ := h
  obtain ⟨hclear, ha⟩ | ⟨hset, hlimit, hreached, ha⟩ | ⟨hset, hmore, ha⟩ :=
    afterPoll_cases p b (sat32 (count.toNat + 1)) <;> rw [ha]
  · rw [if_pos hclear]
    exact le_rfl
  · rw [if_neg hset]
    refine ⟨hzero, hlimit, BitVec.eq_of_toNat_eq ?_⟩
    have hcount := hbelow hlimit
    have hrange := p.pollLimit.isLt
    rw [sat32_toNat (by omega)] at hreached ⊢
    omega
  · rw [if_neg hset]
    exact ⟨hzero, hmore.resolve_left⟩

/-- A delay step exits at 0, or brings `DELAY` closer to 0 (R103, R105). -/
theorem fsmSound_delayStep {p : Params} {exit i : InitState} (hcode : s.initState = i.code)
    (hexit : CountersSound p 0#32 s.pollCount exit)
    (hstay : s.delay ≠ 0#32 → CountersSound p (s.delay - 1#32) s.pollCount i) :
    FsmSound p (delayStep exit s).initState (delayStep exit s).delay (delayStep exit s).pollCount := by
  obtain ⟨hzero, h⟩ | ⟨hrunning, h⟩ := delayStep_cases s exit <;> rw [h]
  · exact ⟨exit, rfl, hzero ▸ hexit⟩
  · exact ⟨i, hcode, hstay hrunning⟩

theorem fsmSound_fsmStep (h : FsmSound s.cfg s.initState s.delay s.pollCount) (htransient : s.transient = true) :
    FsmSound s.cfg (fsmStep s).initState (fsmStep s).delay (fsmStep s).pollCount := by
  obtain ⟨hc, hs⟩ | ⟨hc, hs⟩ | ⟨hc, hs⟩ | ⟨hc, hs⟩ | ⟨hc, hs⟩ | ⟨hc, hs⟩ := transient_cases s htransient <;>
    rw [hs] <;> have hcounters := h.counters hc
  case inl => exact ⟨.poll, rfl, hcounters, fun hlimit => toNat_pos_of_ne_zero hlimit⟩
  case inr.inl => exact ⟨_, rfl, countersSound_fsmPoll hcounters _⟩
  case inr.inr.inl =>
    exact fsmSound_delayStep (exit := .sprWr) hc rfl fun hd => (toNat_sub_one_le hd).trans hcounters
  case inr.inr.inr.inl => exact ⟨.sprDly, rfl, le_rfl⟩
  case inr.inr.inr.inr.inl =>
    exact fsmSound_delayStep (exit := .clkWr) hc rfl fun hd => (toNat_sub_one_le hd).trans hcounters
  case inr.inr.inr.inr.inr => exact ⟨.configured, rfl, hcounters⟩

/-- An FSM step keeps what the invariant says outside the FSM. -/
theorem Inv.fsmStep (h : Inv s) (htransient : s.transient = true) : Inv (fsmStep s) := by
  obtain ⟨hcfg, hfsm, hcause, hshort, hclosed, hquiet⟩ := inv_iff.mp h
  exact inv_iff.mpr ⟨by simpa using hcfg, by simpa using fsmSound_fsmStep hfsm htransient, by simpa using hcause,
    by simpa using hshort, by simpa using hclosed, fun _ => by simpa using hquiet htransient⟩

/-! #### Performed commands -/

theorem recBytes_length (little : Bool) (r : SampleRecord) : (recBytes little r).length = recBytesLen := by
  cases little <;> rfl

/-- The longest frame is DataElement's: its tag and the record's 20 bytes (10_state.md R28). -/
theorem effectOf_txq_length (i : Instr) (htxq : s.txq = []) : (effectOf i s).txq.length ≤ 21 := by
  cases i with
  | init | read | loadAux => simp [effectOf, htxq]
  | dataElement => simp [effectOf, elementFrame, recBytes_length, recBytesLen]
  | msgClose ln => cases ln <;> simp [effectOf, messageEnd]
  | errorCode => simp [effectOf, errorFrame, errorText]
  | fatal => cases hopen : s.msgOpen <;> simp [effectOf, fatalEmission, fatalFrames, fatalText, hopen]
  | dataStart | dataEnd | heartbeat | msgOpen | msgChar => simp [effectOf]

/-- FATAL closes the message it halts in (41_framing.md R143); no other command halts. -/
theorem effectOf_haltedClosed (i : Instr) (hhalted : s.halted = false) (h : (effectOf i s).halted = true) :
    (effectOf i s).msgOpen = false := by
  by_cases hfatal : i = .fatal
  · subst hfatal
    rfl
  · rw [effectOf_halted hfatal, hhalted] at h
    cases h

/-- Whether the FSM is transient is a matter of `INIT_STATE` alone. -/
theorem transient_congr (h : t.initState = s.initState) : t.transient = s.transient := by
  simp only [State.transient, h]

/-- INIT starts in IDLE with no message open, and no other command touches the FSM. -/
theorem Inv.effectOf (h : Inv s) {i : Instr} (hbusy : s.busy = false) (hhalted : s.halted = false)
    (hverdict : verdict i.opcode s = .perform) : Inv (effectOf i s) := by
  obtain ⟨hcfg, hfsm, hcause, _⟩ := inv_iff.mp h
  obtain ⟨hstable, htxq⟩ := busy_eq_false_iff.mp hbusy
  by_cases hinit : i = .init
  · subst hinit
    obtain ⟨_, hclosed, hidle⟩ := (verdict_init_perform s).mp hverdict
    have hzero : s.delay = 0#32 := hfsm.counters hidle
    exact inv_iff.mpr ⟨hcfg, ⟨.resetWr, rfl, hzero⟩, hcause, effectOf_txq_length .init htxq,
      effectOf_haltedClosed .init hhalted, fun _ => ⟨htxq, hhalted, hclosed⟩⟩
  · have hcode := effectOf_initState hinit s
    refine inv_iff.mpr ⟨by simpa using hcfg, by simpa [hcode] using hfsm, by simpa using hcause,
      effectOf_txq_length i htxq, effectOf_haltedClosed i hhalted, fun htransient => ?_⟩
    simp [transient_congr hcode, hstable] at htransient

/-- Settles O57: each of the six effects of a step keeps the invariant. -/
theorem everyStepKeepsTheInvariant : Obligations.EveryStepKeepsTheInvariant := by
  intro s t h hstep
  cases step_effect hstep with
  | reset => exact inv_applyReset h.tick.configured
  | fsm _ _ htransient => exact h.tick.fsmStep htransient
  | wait => exact h.tick
  | reject _ _ _ _ cause hcause => exact h.tick.raiseReject hcause
  | perform _ _ hbusy hhalted i _ hverdict => exact h.tick.effectOf hbusy hhalted hverdict
  | send _ b rest htxq => exact h.tick.send htxq

end Sys2Proof.Machine
end

section
/-! PROOFS. The outputs and reset values (10_state.md R33 to R39), how a word is presented, and the faults of unnamed
codes (93_implementation_defined.md U10). -/

namespace Sys2Proof.Machine

open Sys2Proof.Claims

variable {s : State}

/-! ### Presenting a word -/

/-- The bits the decoder reads from a table row are the word that is placed. -/
theorem decode_of_decodeTableWord {nbits w : Nat} {i : Instr} (h : decodeTableWord nbits w = some i) :
    decode (BitVec.ofNat 72 (w % 2 ^ nbits)) = .ok i := by
  unfold decodeTableWord at h
  split at h
  · cases h
    assumption
  · cases h

/-- Pending bytes are taken first, so a block with a stable FSM accepts the placed word at once (R39). -/
theorem accepts_withFetchWord (hsafe : s.safe = true) (hstable : s.transient = false) (nbits w : Nat) :
    Accepts (s.withFetchWord nbits w) (BitVec.ofNat 72 (w % 2 ^ nbits)) :=
  ⟨hsafe, rfl, busy_eq_false_iff.mpr ⟨hstable, rfl⟩⟩

/-- Settles O9: the placed word is accepted, and taking the choice off leaves the drained block one step later. -/
theorem placedWordRunsNext : Obligations.PlacedWordRunsNext := by
  intro s w i hsafe hstable htable
  exact stepRunsDecodedCommand _ _ i (accepts_withFetchWord hsafe hstable 72 w) (decode_of_decodeTableWord htable)

/-- A busy block's controller does not look at the presented word (70_reset_and_hazards.md R195). -/
theorem controllerStep_of_busy (h : s.busy = true) (cmd cmd' : Option Command) :
    controllerStep cmd s = controllerStep cmd' s := by
  cases hfsm : s.transient with
  | true => simp [controllerStep, hfsm]
  | false =>
    have htxq : s.txq ≠ [] := by simpa [State.busy, hfsm] using h
    simp [controllerStep, hfsm, htxq]

theorem turn_controller_of_busy (h : s.busy = true) (cmd cmd' : Option Command) :
    turn (.controller cmd) s = turn (.controller cmd') s := by
  simp only [turn, controllerStep_of_busy h cmd cmd']

/-- Settles O10: the two steps are the turns of one busy controller, which do not depend on the word. -/
theorem wordWaitsWhileBusy : Obligations.WordWaitsWhileBusy := by
  intro s w es hready
  have hbusy : s.busy = true := by simpa [State.cmdReady] using hready
  have hturn := turn_controller_of_busy (s := { s with events := es, now := s.now + 1 }) hbusy (some w) none
  exact congrArg (fun o => if s.cfg.wellFormed then o else .refused .badConfiguration) hturn

/-! ### Unnamed codes -/

theorem ofCode_eq_none {c : BitVec 4} (h : 9 ≤ c.toNat) : InitState.ofCode c = none := by
  revert c
  decide

/-- `INIT_STATE` is looked at first. -/
theorem unnamedCode_of_initState (h : 9 ≤ s.initState.toNat) :
    s.unnamedCode = some (.unnamedInitState s.initState) := by
  simp only [State.unnamedCode, ofCode_eq_none h]

theorem unnamedCode_of_rejCause (hinit : s.initState.toNat ≤ 8) (h : 5 ≤ s.rejCause.toNat) :
    s.unnamedCode = some (.unnamedRejCause s.rejCause) := by
  obtain ⟨i, hi⟩ := code_le_iff.mp hinit
  have hcause : rejCauseNamed s.rejCause = false := decide_eq_false (by omega)
  simp [State.unnamedCode, hi, hcause]

/-- A turn of the controller or the transport reports the unnamed code of the state. -/
theorem step_of_unnamedCode {f : Fault} (hcfg : s.cfg.wellFormed = true) (hrst : s.event ≠ .rst)
    (h : s.unnamedCode = some f) : step s = .fault f := by
  have hcode : s.tick.unnamedCode = some f := h
  rw [step_of_wellFormed hcfg]
  cases hevent : s.event with
  | rst => exact absurd hevent hrst
  | controller cmd => simp only [turn, hcode]
  | transport ready => simp only [turn, hcode]

/-- Settles O12: the step faults by the state's unnamed code, `INIT_STATE` first. -/
theorem unnamedCodesFault : Obligations.UnnamedCodesFault :=
  fun _ hcfg hrst => ⟨fun hinit => step_of_unnamedCode hcfg hrst (unnamedCode_of_initState hinit),
    fun hinit hcause => step_of_unnamedCode hcfg hrst (unnamedCode_of_rejCause hinit hcause)⟩

/-! ### Outputs -/

theorem status_reset : State.reset.status = 0x0000#16 := rfl

/-- Settles O14, by evaluation at the fixed reset state. -/
theorem resetValues : Obligations.ResetValues :=
  ⟨rfl, rfl, rfl, rfl, rfl, rfl, rfl, rfl, rfl, rfl, status_reset, rfl, rfl, rfl⟩

/-- Which element a bit of the output shows (R34), for every position. -/
theorem getLsbD_status (s : State) (k : Nat) : s.status.getLsbD k =
    if k < 4 then s.initState.getLsbD k else if k < 5 then s.busy else if k < 6 then s.halted
    else if k < 7 then s.msgOpen else if k < 8 then s.cmdRejected else if k < 11 then s.rejCause.getLsbD (k - 8)
    else if k < 12 then s.busErr else false := by
  have hwidths : s.status.getLsbD k = BitVec.getLsbD (w := 4 + 1 + 3 + 1 + 1 + 1 + 1 + 4) s.status k := rfl
  rw [hwidths, State.status]
  simp only [BitVec.getLsbD_append, BitVec.getLsbD_ofBool, Nat.sub_sub, BitVec.getLsbD_zero]
  obtain hk | hk := Nat.lt_or_ge k 12
  · interval_cases k <;> rfl
  · grind

/-- Settles O54: each field of the output is read off at its place. -/
theorem statusFields : Obligations.StatusFields := by
  refine ⟨status_reset, fun s => ⟨?_, ?_, ?_, ?_, ?_, ?_, ?_, ?_⟩⟩
  case refine_1 | refine_6 | refine_8 =>
    ext i hi
    rw [BitVec.getElem_extractLsb', getLsbD_status]
    interval_cases i <;> simp
  all_goals exact getLsbD_status s _

/-- The codes of the six transient states (R23, R33). -/
theorem transient_iff : s.transient = true ↔ s.initState = 1#4 ∨ s.initState = 2#4 ∨ s.initState = 3#4 ∨
    s.initState = 4#4 ∨ s.initState = 5#4 ∨ s.initState = 6#4 := by
  simp [State.transient, InitState.code]

theorem busy_iff : s.busy = true ↔ s.transient = true ∨ s.txq ≠ [] := by
  simp [State.busy]

/-- Settles O55: the two disjuncts are the definition, and the invariant excludes both at once. -/
theorem busyIsTransientOrPending : Obligations.BusyIsTransientOrPending := by
  intro s
  rw [← transient_iff]
  exact ⟨busy_iff, fun h ⟨htransient, htxq⟩ => htxq (h.exclusive htransient)⟩

end Sys2Proof.Machine
end


section
/-! PROOFS. The byte stream, the wire form of the record and the bus (20_memory.md R51, R54, R55, R60;
41_framing.md R132). -/

namespace Sys2Proof.Machine

open Sys2Proof.Claims

variable {s t u : State}

/-! ### The stream only grows -/

@[simp] theorem fsmStep_out (s : State) : (fsmStep s).out = s.out := by
  unfold fsmStep
  split <;> simp

/-- From `s` to `t` the stream grows only at its end, waiting bytes included or not (R60, R132). -/
def StreamGrows (s t : State) : Prop := s.out ++ s.txq <+: t.out ++ t.txq ∧ s.out <+: t.out

theorem StreamGrows.trans (h : StreamGrows s t) (h' : StreamGrows t u) : StreamGrows s u :=
  ⟨h.1.trans h'.1, h.2.trans h'.2⟩

theorem streamGrows_of_eq (hout : t.out = s.out) (htxq : t.txq = s.txq) : StreamGrows s t := by
  simp [StreamGrows, hout, htxq]

/-- With no byte waiting, any new frame comes after all that left. -/
theorem streamGrows_of_idle (htxq : s.txq = []) (hout : t.out = s.out) : StreamGrows s t := by
  simp [StreamGrows, htxq, hout]

theorem step_streamGrows (hstep : step s = .next t) (hrst : s.event ≠ .rst) : StreamGrows s t := by
  cases step_effect hstep with
  | reset hevent => exact absurd hevent hrst
  | fsm => exact streamGrows_of_eq (by simp) (by simp)
  | wait | reject => exact streamGrows_of_eq rfl rfl
  | perform _ _ hbusy => exact streamGrows_of_idle (busy_eq_false_iff.mp hbusy).2 (by simp)
  | send _ b rest htxq => simp [StreamGrows, htxq]

theorem steps_streamGrows {n : Nat} (hrun : Steps n s t) (hrst : NoReset n s) : StreamGrows s t := by
  induction n generalizing s with
  | zero => exact steps_zero.mp hrun ▸ streamGrows_of_eq rfl rfl
  | succ n ih =>
    obtain ⟨u, hstep, hrest⟩ := steps_succ.mp hrun
    exact (step_streamGrows hstep hrst.head).trans (ih hrest (hrst.tail hstep))

/-- Settles O39: each step extends the stream at its end, and so does their sequence. -/
theorem streamOnlyGrows : Obligations.StreamOnlyGrows := by
  intro n s t hrun hrst
  obtain ⟨⟨xs, hall⟩, ys, hleft⟩ := steps_streamGrows hrun hrst
  exact ⟨xs, hall.symm, ys, hleft.symm⟩

/-! ### Waiting bytes hold everything else -/

/-- Settles O40: with bytes waiting, of the effects of a step without a reset only a wait and a taken byte are
possible. -/
theorem framesAndTransactionsDoNotOverlap : Obligations.FramesAndTransactionsDoNotOverlap := by
  intro s t hstep hinv hrst hpending
  cases step_effect hstep with
  | reset hevent => exact absurd hevent hrst
  | fsm _ _ htransient => exact absurd (hinv.exclusive htransient) hpending
  | wait => exact ⟨rfl, rfl⟩
  | reject _ _ hbusy | perform _ _ hbusy => exact absurd (busy_eq_false_iff.mp hbusy).2 hpending
  | send _ b rest htxq => exact ⟨rfl, by simp [htxq]⟩

/-! ### The wire form of the record -/

/-- A bit vector is determined by its bytes. -/
theorem eq_of_byteOf_eq {n : Nat} {v w : BitVec n} (h : ∀ k, 8 * k < n → byteOf v k = byteOf w k) : v = w := by
  ext i hi
  have hbit := congrArg (·.getLsbD (i % 8)) (h (i / 8) (by omega))
  have hpos : 8 * (i / 8) + i % 8 = i := Nat.div_add_mod i 8
  have hlt : i % 8 < 8 := Nat.mod_lt i (by decide)
  simpa [byteOf, BitVec.getLsbD_extractLsb', hpos, hlt, BitVec.getLsbD_eq_getElem hi] using hbit

theorem ser16_length (little : Bool) (v : Half) : (ser16 little v).length = 2 := by
  cases little <;> rfl

theorem ser32_length (little : Bool) (v : Word) : (ser32 little v).length = 4 := by
  cases little <;> rfl

/-- In either byte order the form of a 16-bit field holds both of its bytes (R55). -/
theorem ser16_inj {little : Bool} {v w : Half} : ser16 little v = ser16 little w ↔ v = w := by
  refine ⟨fun h => eq_of_byteOf_eq fun k hk => ?_, congrArg _⟩
  have hbyte : k < 2 := by omega
  cases little <;> simp only [ser16, le16, be16] at h <;> interval_cases k <;> simp_all [byteOf]

/-- In either byte order the form of a 32-bit field holds its four bytes (R55). -/
theorem ser32_inj {little : Bool} {v w : Word} : ser32 little v = ser32 little w ↔ v = w := by
  refine ⟨fun h => eq_of_byteOf_eq fun k hk => ?_, congrArg _⟩
  have hbyte : k < 4 := by omega
  cases little <;> simp only [ser32, le32, be32] at h <;> interval_cases k <;> simp_all [byteOf]

/-- A 16-bit field is read off the front of the wire form. -/
theorem ser16_append_inj {little : Bool} {v w : Half} {xs ys : List Byte} :
    ser16 little v ++ xs = ser16 little w ++ ys ↔ v = w ∧ xs = ys := by
  refine ⟨fun h => ?_, fun ⟨hv, hxs⟩ => hv ▸ hxs ▸ rfl⟩
  exact (List.append_inj h (by simp only [ser16_length])).imp_left ser16_inj.mp

/-- A 32-bit field is read off the front of the wire form. -/
theorem ser32_append_inj {little : Bool} {v w : Word} {xs ys : List Byte} :
    ser32 little v ++ xs = ser32 little w ++ ys ↔ v = w ∧ xs = ys := by
  refine ⟨fun h => ?_, fun ⟨hv, hxs⟩ => hv ▸ hxs ▸ rfl⟩
  exact (List.append_inj h (by simp only [ser32_length])).imp_left ser32_inj.mp

/-- The wire form is injective: its fields are read off one after the other. -/
theorem recBytes_inj {little : Bool} {r r' : SampleRecord} (h : recBytes little r = recBytes little r') : r = r' := by
  simp only [recBytes, List.append_assoc, ser32_append_inj, ser16_append_inj, ser16_inj, List.cons_append,
    List.nil_append, List.cons.injEq] at h
  cases r
  cases r'
  simpa only [SampleRecord.mk.injEq] using h

/-- Settles O43, by the length and the injectivity of the wire form. -/
theorem recordBytesDetermineTheRecord : Obligations.RecordBytesDetermineTheRecord :=
  fun little r _ => ⟨recBytes_length little r, recBytes_inj⟩

/-! ### The transactions -/

variable {x y : BusTransaction}

/-- The transaction by which the bus grew is the one that was made. -/
theorem transaction_eq (hmade : t.bus = s.bus ++ [y]) (hbus : t.bus = s.bus ++ [x]) : x = y := by
  simpa [hmade, eq_comm] using hbus

theorem bus_ne_append (hsame : t.bus = s.bus) : t.bus ≠ s.bus ++ [x] := by
  simp [hsame]

/-- The transactions of the FSM: three writes and the poll (R51; 40_sensor_interface.md R101, R102, R104, R106). -/
theorem fsmStep_transaction (htransient : s.transient = true) (hbus : (fsmStep s).bus = s.bus ++ [x]) :
    (s.initState = 1#4 ∧ x = .write s.cfg.devAddr s.cfg.regPwr s.cfg.pwrResetValue s.answer.ok) ∨
    (s.initState = 4#4 ∧ x = .write s.cfg.devAddr s.cfg.regSpr s.cfg.sprValue s.answer.ok) ∨
    (s.initState = 6#4 ∧ x = .write s.cfg.devAddr s.cfg.regPwr s.cfg.pwrRunValue s.answer.ok) ∨
    (s.initState = 2#4 ∧ x = pollOf s.cfg s.answer) := by
  obtain ⟨hc, hs⟩ | ⟨hc, hs⟩ | ⟨_, hs⟩ | ⟨hc, hs⟩ | ⟨_, hs⟩ | ⟨hc, hs⟩ := transient_cases s htransient <;>
    rw [hs] at hbus
  case inl => exact .inl ⟨hc, transaction_eq (fsmResetWr_bus s) hbus⟩
  case inr.inl =>
    have hpoll := transaction_eq (fsmPoll_bus s) hbus
    rw [take_one_data] at hpoll
    exact .inr (.inr (.inr ⟨hc, hpoll⟩))
  case inr.inr.inl => exact absurd hbus (bus_ne_append (fsmSettle_bus s))
  case inr.inr.inr.inl => exact .inr (.inl ⟨hc, transaction_eq (fsmSprWr_bus s) hbus⟩)
  case inr.inr.inr.inr.inl => exact absurd hbus (bus_ne_append (fsmSprDly_bus s))
  case inr.inr.inr.inr.inr => exact .inr (.inr (.inl ⟨hc, transaction_eq (fsmClkWr_bus s) hbus⟩))

/-- The only transaction of a command: READ's burst of fourteen bytes (R51, R52). -/
theorem effectOf_transaction {i : Instr} (hbus : (effectOf i s).bus = s.bus ++ [x]) :
    i = .read ∧ ∃ bs ok, bs.length = 14 ∧ x = .read s.cfg.devAddr s.cfg.burstStartReg bs ok := by
  by_cases hread : i = .read
  · subst hread
    exact ⟨rfl, _, _, by simp [burstLen], transaction_eq (burstRead_bus s) hbus⟩
  · exact absurd hbus (bus_ne_append (effectOf_bus hread s))

/-- Settles O47: of the effects of a step, only an FSM step and a performed READ grow the list of transactions. -/
theorem busTransactionsOfAStep : Obligations.BusTransactionsOfAStep := by
  intro s t x hstep hbus
  cases step_effect hstep with
  | reset | wait | reject | send => exact absurd hbus (bus_ne_append rfl)
  | fsm _ _ htransient =>
    obtain ⟨hc, hx⟩ | ⟨hc, hx⟩ | ⟨hc, hx⟩ | ⟨hc, hx⟩ := fsmStep_transaction (s := s.tick) htransient hbus
    · exact .inl ⟨hc, _, hx⟩
    · exact .inr (.inl ⟨hc, _, hx⟩)
    · exact .inr (.inr (.inl ⟨hc, _, hx⟩))
    · exact .inr (.inr (.inr (.inl ⟨hc, _, _, hx⟩)))
  | perform w hevent _ _ i hdecode hverdict =>
    obtain ⟨rfl, hburst⟩ := effectOf_transaction (s := s.tick) hbus
    obtain ⟨_, _, hconfigured⟩ := (verdict_read_perform s).mp hverdict
    exact .inr (.inr (.inr (.inr ⟨hconfigured, ⟨w, hevent, hdecode⟩, hburst⟩)))

end Sys2Proof.Machine
end

section
/-! PROOFS. The decoder and the encoder (30_encoding.md R70 to R75): decoding as one equivalence over the opcode and
the operand fields of a word, and the meaningful bits of a word. -/

namespace Sys2Proof

open Sys2Proof.Machine Sys2Proof.Claims

/-! ### Decoding, as one equivalence -/

/-- The command of the form of `i` with its operands read from the fields of `w` (R71, R72). -/
def Instr.readFrom (w : Command) : Instr → Instr
  | .loadAux _ _ _ _ => .loadAux w.tsArg w.anArg w.b0Arg w.b1Arg
  | .msgChar _ => .msgChar w.byteArg
  | .msgClose _ => .msgClose w.lnArg
  | .errorCode _ => .errorCode w.byteArg
  | .init => .init
  | .read => .read
  | .dataStart => .dataStart
  | .dataElement => .dataElement
  | .dataEnd => .dataEnd
  | .heartbeat => .heartbeat
  | .msgOpen => .msgOpen
  | .fatal => .fatal

@[simp] theorem opcode_readFrom (w : Command) (i : Instr) : (i.readFrom w).opcode = i.opcode := by
  cases i <;> rfl

/-- The opcode alone selects the command, and the fields give its operands (R72, R73). -/
theorem decode_of_op {w : Command} {i : Instr} (h : w.op = i.opcode) : decode w = .ok (i.readFrom w) := by
  cases i <;> simp [decode, h, Instr.opcode, Instr.readFrom]

/-- A decoded word has the command's opcode. -/
theorem op_of_decode {w : Command} {i : Instr} (h : decode w = .ok i) : w.op = i.opcode := by
  by_cases hop : w.op ∈ assignedOpcodes
  · obtain ⟨j, hj, hopcode⟩ := decode_assigned hop
    rw [← hopcode, Except.ok.inj (hj.symm.trans h)]
  · rw [decode_unassigned hop] at h
    cases h

/-- A word decodes to `i` exactly when its opcode and its operand fields are those of `i`. -/
theorem decode_eq_ok_iff {w : Command} {i : Instr} :
    decode w = .ok i ↔ w.op = i.opcode ∧ i.readFrom w = i := by
  constructor
  · intro h
    have hop := op_of_decode h
    exact ⟨hop, Except.ok.inj ((decode_of_op hop).symm.trans h)⟩
  · rintro ⟨hop, hfields⟩
    rw [decode_of_op hop, hfields]

/-- Settles O2: each clause is `decode_of_op` at the command of its opcode. -/
theorem opcodeMapAndOperandFields : Obligations.OpcodeMapAndOperandFields := fun _ =>
  ⟨decode_of_op (i := .init), decode_of_op (i := .read), decode_of_op (i := .loadAux 0 0 0 0),
    decode_of_op (i := .dataStart), decode_of_op (i := .dataElement), decode_of_op (i := .dataEnd),
    decode_of_op (i := .heartbeat), decode_of_op (i := .msgOpen), decode_of_op (i := .msgChar 0),
    decode_of_op (i := .msgClose false), decode_of_op (i := .errorCode 0), decode_of_op (i := .fatal)⟩

/-- Settles O1: fourteen fixed words, each decoded by evaluation. -/
theorem writtenWordsDecode : Obligations.WrittenWordsDecode :=
  ⟨rfl, rfl, rfl, rfl, rfl, rfl, rfl, rfl, rfl, rfl, rfl, rfl, rfl, rfl⟩

/-! ### The encoder -/

/-- An operand that is put under zeros is read back as `BYTE` (format B). -/
theorem byteArg_encode {i : Instr} {byte : Byte} (h : i.arg = 0#56 ++ byte) : (encode i).byteArg = byte := by
  unfold Command.byteArg
  rw [extract_encode i (by decide), h, extract_zero_append]

/-- The fields of an encoded command hold its operands (R72, R78). -/
theorem readFrom_encode (i : Instr) : i.readFrom (encode i) = i := by
  cases i with
  | loadAux ts an b0 b1 =>
    obtain ⟨hts, han, hb0, hb1⟩ := arg_loadAux ts an b0 b1
    simp only [Instr.readFrom, Command.tsArg, Command.anArg, Command.b0Arg, Command.b1Arg]
    rw [extract_encode _ (by decide), extract_encode _ (by decide), extract_encode _ (by decide),
      extract_encode _ (by decide), hts, han, hb0, hb1]
  | msgChar byte => exact congrArg Instr.msgChar (byteArg_encode rfl)
  | errorCode byte => exact congrArg Instr.errorCode (byteArg_encode rfl)
  | msgClose ln =>
    have hbit : (encode (.msgClose ln)).lnArg = ln := by
      cases ln <;> rfl
    exact congrArg Instr.msgClose hbit
  | init | read | dataStart | dataElement | dataEnd | heartbeat | msgOpen | fatal => rfl

/-- Settles O3: an encoded command has its opcode and its operand fields, which is what decoding reads. -/
theorem decodeEncodeRoundTrip : Obligations.DecodeEncodeRoundTrip := fun i =>
  decode_eq_ok_iff.mpr ⟨op_encode i, readFrom_encode i⟩

theorem encode_injective : Function.Injective encode := fun i j h =>
  Except.ok.inj ((decodeEncodeRoundTrip i).symm.trans ((congrArg decode h).trans (decodeEncodeRoundTrip j)))

/-! ### The meaningful bits -/

/-- A word is its opcode, then its argument (R70). -/
theorem op_append_arg (w : Command) : w.op ++ w.extractLsb' 0 64 = w :=
  BitVec.extractLsb'_append_extractLsb'

/-- A mask that keeps the opcode. -/
theorem and_opMask (w : Command) (m : BitVec 64) :
    w &&& (BitVec.allOnes 8 ++ m) = w.op ++ (w.extractLsb' 0 64 &&& m) := by
  conv_lhs => rw [← op_append_arg w, BitVec.and_append, BitVec.and_allOnes]

/-- A mask that keeps the opcode and the low `n` bits of the argument. -/
theorem and_fieldMask (w : Command) {k n : Nat} (h : k + n = 64) :
    w &&& (BitVec.allOnes 8 ++ (0#k ++ BitVec.allOnes n).cast h) = w.op ++ (0#k ++ w.extractLsb' 0 n).cast h := by
  rw [and_opMask]
  congr 1
  ext j hj
  simp only [BitVec.getElem_and, BitVec.getElem_cast, BitVec.getElem_append, BitVec.getElem_extractLsb']
  by_cases hjn : j < n <;> simp [hjn]

/-- `LN` is the argument's lowest bit, as a field of one bit (R72, format L). -/
theorem extract_lnArg (w : Command) : w.extractLsb' 0 1 = BitVec.ofBool w.lnArg :=
  (BitVec.setWidth_eq_extractLsb' (by decide)).symm.trans BitVec.setWidth_one

/-- The four fields of format A are the whole argument (R71). -/
theorem auxArgs_append (w : Command) : w.b1Arg ++ w.b0Arg ++ w.anArg ++ w.tsArg = w.extractLsb' 0 64 := by
  have hbuttons : w.b1Arg ++ w.b0Arg = w.extractLsb' 48 16 :=
    BitVec.extractLsb'_append_extractLsb'_eq_extractLsb' rfl
  have hhost : w.extractLsb' 48 16 ++ w.anArg = w.extractLsb' 32 32 :=
    BitVec.extractLsb'_append_extractLsb'_eq_extractLsb' rfl
  rw [hbuttons, hhost]
  exact BitVec.extractLsb'_append_extractLsb'_eq_extractLsb' rfl

/-- The meaningful bits of a word are its opcode and the operand fields of the format (R71, R75). -/
theorem and_careMask (w : Command) (i : Instr) : w &&& i.careMask = w.op ++ (i.readFrom w).arg := by
  cases i with
  | loadAux ts an b0 b1 =>
    calc w &&& BitVec.allOnes 72
      _ = w.op ++ w.extractLsb' 0 64 := by rw [BitVec.and_allOnes, op_append_arg]
      _ = w.op ++ (w.b1Arg ++ w.b0Arg ++ w.anArg ++ w.tsArg) := by rw [auxArgs_append]
  | msgChar byte => exact and_fieldMask w (k := 56) (n := 8) rfl
  | errorCode byte => exact and_fieldMask w (k := 56) (n := 8) rfl
  | msgClose ln =>
    calc w &&& (BitVec.allOnes 8 ++ (0#63 ++ BitVec.allOnes 1))
      _ = w.op ++ (0#63 ++ w.extractLsb' 0 1) := and_fieldMask w (k := 63) (n := 1) rfl
      _ = w.op ++ (0#63 ++ BitVec.ofBool w.lnArg) := by rw [extract_lnArg]
  | init | read | dataStart | dataElement | dataEnd | heartbeat | msgOpen | fatal =>
    calc w &&& (BitVec.allOnes 8 ++ 0#64)
      _ = w.op ++ (w.extractLsb' 0 64 &&& 0#64) := and_opMask w 0#64
      _ = w.op ++ 0#64 := by rw [BitVec.and_zero]

/-- The meaningful bits are the word of `i` exactly when the opcode and the operand fields are those of `i`. -/
theorem and_careMask_eq_encode_iff {w : Command} {i : Instr} :
    w &&& i.careMask = encode i ↔ w.op = i.opcode ∧ i.readFrom w = i := by
  rw [and_careMask]
  constructor
  · intro h
    have hop : w.op = i.opcode := by
      calc w.op
        _ = Command.op (w.op ++ (i.readFrom w).arg) := BitVec.extractLsb'_append_eq_left.symm
        _ = i.opcode := by rw [h, op_encode]
    have hencode : encode (i.readFrom w) = encode i := by
      rw [encode, opcode_readFrom, ← hop, h]
    exact ⟨hop, encode_injective hencode⟩
  · rintro ⟨hop, hfields⟩
    rw [hop, hfields, encode]

/-- Settles O4: both sides say that the opcode and the operand fields are those of `i`. -/
theorem ignoredBitsDoNotMatter : Obligations.IgnoredBitsDoNotMatter := fun _ _ =>
  decode_eq_ok_iff.trans and_careMask_eq_encode_iff.symm

/-! ### Unassigned opcodes -/

/-- The ranges of R74 are what R73 leaves over. -/
theorem unassigned_iff (op : Byte) : Unassigned op ↔ op ∉ assignedOpcodes := by
  simp only [Unassigned, assignedOpcodes, List.mem_cons, List.not_mem_nil, or_false, ← BitVec.toNat_inj,
    BitVec.toNat_ofNat]
  omega

/-- A word with an unassigned opcode is dropped by a halted block and otherwise rejected with cause 1 (R74). -/
theorem acceptWord_of_unassigned {w : Command} (h : w.op ∉ assignedOpcodes) (s : State) :
    acceptWord w s = .next (if s.halted then s else s.raiseReject .illegalOpcode) := by
  simp only [acceptWord, decode_unassigned h, accept, verdict_unassigned s h]
  cases s.halted <;> rfl

/-- Settles O5: the decoder refuses exactly the opcodes outside R73's map, and their acceptance drops or rejects. -/
theorem unassignedOpcodesRejected : Obligations.UnassignedOpcodesRejected := by
  refine ⟨fun w => (unassigned_iff w.op).trans ⟨decode_unassigned, fun h => (decode_error h).2⟩, ?_⟩
  intro s w haccepts hop
  rw [step_of_accepts haccepts, acceptWord_of_unassigned ((unassigned_iff w.op).mp hop)]
  rfl

end Sys2Proof
end

section
/-! PROOFS. The assembler (30_encoding.md R78, R79): the words of its lines as numbers. -/

namespace Sys2Proof

open Sys2Proof.Machine Sys2Proof.Claims

/-! ### The word of a command as a number -/

/-- The parts of a concatenation do not overlap, so its number is a sum. -/
theorem toNat_append_eq_add {m n : Nat} (x : BitVec m) (y : BitVec n) :
    (x ++ y).toNat = x.toNat * 2 ^ n + y.toNat := by
  rw [BitVec.toNat_append, ← Nat.shiftLeft_add_eq_or_of_lt y.isLt, Nat.shiftLeft_eq]

/-- The word of a command is `{OP, ARG}` as a number (R70). -/
theorem encode_eq_wordOf (i : Instr) : encode i = wordOf i.opcode.toNat i.arg.toNat := by
  apply BitVec.eq_of_toNat_eq
  rw [wordOf, BitVec.toNat_ofNat, ← toNat_append_eq_add]
  exact (Nat.mod_eq_of_lt (encode i).isLt).symm

/-- The argument of format B, its operand in range (R71). -/
theorem toNat_byteArg {c : Nat} (h : c < 2 ^ 8) : (0#56 ++ BitVec.ofNat 8 c).toNat = c := by
  rw [toNat_append_eq_add, BitVec.toNat_ofNat, BitVec.toNat_ofNat, Nat.mod_eq_of_lt h, Nat.zero_mod, Nat.zero_mul,
    Nat.zero_add]

/-- The argument of format A, its operands in range (R71). -/
theorem toNat_arg_loadAuxOf {ts an b0 b1 : Nat} (h : AuxFits ts an b0 b1) :
    (loadAuxOf ts an b0 b1).arg.toNat = auxArg ts an b0 b1 := by
  obtain ⟨hts, han, hb0, hb1⟩ := h
  simp only [loadAuxOf, Instr.arg, toNat_append_eq_add, BitVec.toNat_ofNat, Nat.mod_eq_of_lt hts,
    Nat.mod_eq_of_lt han, Nat.mod_eq_of_lt hb0, Nat.mod_eq_of_lt hb1, auxArg]
  omega

theorem encode_loadAuxOf {ts an b0 b1 : Nat} (h : AuxFits ts an b0 b1) :
    encode (loadAuxOf ts an b0 b1) = wordOf 0x03 (auxArg ts an b0 b1) := by
  rw [encode_eq_wordOf, toNat_arg_loadAuxOf h]
  rfl

theorem encode_msgChar {c : Nat} (h : c < 2 ^ 8) : encode (.msgChar (BitVec.ofNat 8 c)) = wordOf 0x15 c := by
  rw [encode_eq_wordOf, Instr.arg, toNat_byteArg h]
  rfl

theorem encode_errorCode {c : Nat} (h : c < 2 ^ 8) : encode (.errorCode (BitVec.ofNat 8 c)) = wordOf 0x17 c := by
  rw [encode_eq_wordOf, Instr.arg, toNat_byteArg h]
  rfl

theorem encode_msgClose (ln : Bool) : encode (.msgClose ln) = wordOf 0x16 ln.toNat := by
  cases ln <;> rfl

/-- The words of a message are the opening, one per code, and the closing (R79). -/
theorem encode_messageCommands {text : List Nat} (h : ∀ c, c ∈ text → c < 2 ^ 7) (ln : Bool) :
    (messageCommands text ln).map encode =
      [wordOf 0x14 0] ++ text.map (wordOf 0x15) ++ [wordOf 0x16 ln.toNat] := by
  have hchars : (text.map fun c => Instr.msgChar (BitVec.ofNat 8 c)).map encode = text.map (wordOf 0x15) := by
    rw [List.map_map]
    exact List.map_congr_left fun c hc => encode_msgChar (Nat.lt_trans (h c hc) (by decide))
  rw [messageCommands, List.map_append, List.map_cons, hchars, List.map_singleton, encode_msgClose]
  rfl

/-! ### The lines -/

theorem assemble_eq_some {l : Line} (h : l.wellFormed = true) : l.assemble = some (l.expand.map encode) := if_pos h

theorem assemble_eq_none {l : Line} (h : ¬ l.wellFormed = true) : l.assemble = none := if_neg h

theorem auxFits_iff {ts an b0 b1 : Nat} : auxFits ts an b0 b1 = true ↔ AuxFits ts an b0 b1 := by
  simp [auxFits, AuxFits, and_assoc]

/-- The lines of LOAD_AUX and SAMPLE with operands that fit. -/
theorem assemble_aux {ts an b0 b1 : Nat} (h : AuxFits ts an b0 b1) :
    (Line.loadAux ts an b0 b1).assemble = some [wordOf 0x03 (auxArg ts an b0 b1)] ∧
    (Line.sample ts an b0 b1).assemble =
      some [wordOf 0x03 (auxArg ts an b0 b1), wordOf 0x02 0, wordOf 0x11 0] := by
  have hwf := auxFits_iff.mpr h
  rw [← encode_loadAuxOf h]
  exact ⟨assemble_eq_some hwf, assemble_eq_some hwf⟩

/-- The lines with one operand that is a byte. -/
theorem assemble_byte {c : Nat} (h : c < 2 ^ 8) :
    (Line.msgChar c).assemble = some [wordOf 0x15 c] ∧ (Line.errorCode c).assemble = some [wordOf 0x17 c] := by
  have hwf : decide (c < 2 ^ 8) = true := decide_eq_true h
  rw [← encode_msgChar h, ← encode_errorCode h]
  exact ⟨assemble_eq_some hwf, assemble_eq_some hwf⟩

theorem assemble_byte_eq_none {c : Nat} (h : 2 ^ 8 ≤ c) :
    (Line.msgChar c).assemble = none ∧ (Line.errorCode c).assemble = none := by
  have hwf : ¬ decide (c < 2 ^ 8) = true := by simpa using h
  exact ⟨assemble_eq_none hwf, assemble_eq_none hwf⟩

theorem assemble_msgClose {ln : Nat} (h : ln < 2) : (Line.msgClose ln).assemble = some [wordOf 0x16 ln] := by
  interval_cases ln <;> rfl

theorem assemble_msgClose_eq_none {ln : Nat} (h : 2 ≤ ln) : (Line.msgClose ln).assemble = none :=
  assemble_eq_none (by simpa [Line.wellFormed] using Nat.not_lt.mpr h)

/-- The message lines with an ASCII text, the empty one too. -/
theorem assemble_message {text : List Nat} (h : ∀ c, c ∈ text → c < 2 ^ 7) :
    (Line.message text).assemble = some ([wordOf 0x14 0] ++ text.map (wordOf 0x15) ++ [wordOf 0x16 0]) ∧
    (Line.messageLn text).assemble = some ([wordOf 0x14 0] ++ text.map (wordOf 0x15) ++ [wordOf 0x16 1]) := by
  have hwf : (text.all fun c => decide (c < 2 ^ 7)) = true := by simpa using h
  exact ⟨(assemble_eq_some (l := .message text) hwf).trans (congrArg some (encode_messageCommands h false)),
    (assemble_eq_some (l := .messageLn text) hwf).trans (congrArg some (encode_messageCommands h true))⟩

theorem assemble_message_eq_none {text : List Nat} (h : ∃ c, c ∈ text ∧ 2 ^ 7 ≤ c) :
    (Line.message text).assemble = none ∧ (Line.messageLn text).assemble = none := by
  have hwf : ¬ (text.all fun c => decide (c < 2 ^ 7)) = true := by simpa using h
  exact ⟨assemble_eq_none hwf, assemble_eq_none hwf⟩

/-- The words of a line decode to the commands it stands for. -/
theorem decode_assemble {l : Line} {ws : List Command} (h : l.assemble = some ws) :
    ws.map decode = l.expand.map .ok ∧ l.expand.map encode = ws := by
  obtain ⟨_, rfl⟩ : l.wellFormed = true ∧ l.expand.map encode = ws := by
    simpa [Line.assemble] using h
  exact ⟨by rw [List.map_map]; exact List.map_congr_left fun i _ => decodeEncodeRoundTrip i, rfl⟩

/-- Settles O6: the lines one kind at a time, and the round trip for every word of a line. -/
theorem assembledLinesDecode : Obligations.AssembledLinesDecode := by
  refine ⟨⟨rfl, rfl, rfl, rfl, rfl, rfl, rfl, rfl⟩, fun ts an b0 b1 => ⟨assemble_aux, fun h => ?_⟩,
    fun c => ⟨assemble_byte, assemble_byte_eq_none, assemble_msgClose, assemble_msgClose_eq_none⟩,
    fun text => ⟨assemble_message, assemble_message_eq_none⟩, fun l ws h => ⟨l.expand, decode_assemble h⟩⟩
  have hwf := mt auxFits_iff.mp h
  exact ⟨assemble_eq_none hwf, assemble_eq_none hwf⟩

end Sys2Proof
end

section
/-! PROOFS. LOAD_AUX and READ in either order (30_encoding.md R79; 40_sensor_interface.md R112, R113). -/

namespace Sys2Proof.Machine

/-- LOAD_AUX at any block: dropped, rejected for an open message, or performed. -/
theorem exec_loadAux (ts : Word) (an : Half) (b0 b1 : Byte) (s : State) :
    exec (.loadAux ts an b0 b1) s = .next (if s.halted then s else if s.msgOpen then s.raiseReject .msgInProgress
      else effectOf (.loadAux ts an b0 b1) s) := by
  rw [exec_eq_accept, accept, Instr.opcode, verdict_closed s (by decide)]
  cases s.halted <;> cases s.msgOpen <;> rfl

/-- READ at any block: dropped, rejected for an open message or a sensor that is not configured, or performed. -/
theorem exec_read (s : State) :
    exec .read s = .next (if s.halted then s else if s.msgOpen then s.raiseReject .msgInProgress
      else if s.initState = InitState.configured.code then effectOf .read s else s.raiseReject .initState) := by
  rw [exec_eq_accept, accept, Instr.opcode, verdict_read]
  cases s.halted <;> cases s.msgOpen <;> by_cases h : s.initState = InitState.configured.code <;> simp [h]

/-- LOAD_AUX writes the four host fields alone, and READ neither reads nor writes them (R112, R113). -/
theorem effectOf_read_loadAux (ts : Word) (an : Half) (b0 b1 : Byte) (s : State) :
    effectOf .read (effectOf (.loadAux ts an b0 b1) s) = effectOf (.loadAux ts an b0 b1) (effectOf .read s) := rfl

/-- A rejection and LOAD_AUX write different fields. -/
theorem raiseReject_effectOf_loadAux (cause : RejCause) (ts : Word) (an : Half) (b0 b1 : Byte) (s : State) :
    (effectOf (.loadAux ts an b0 b1) s).raiseReject cause = effectOf (.loadAux ts an b0 b1) (s.raiseReject cause) := rfl

/-- Settles O7: neither command changes what the other's checks read, so both orders meet the same checks; where both
are performed, or LOAD_AUX is and READ is rejected, the effects commute. -/
theorem sampleOrderIrrelevant : Obligations.SampleOrderIrrelevant := by
  intro s a a' b b' ts an b0 b1 hload hload_read hread hread_load
  rw [exec_loadAux, Host.Outcome.next.injEq] at hload hread_load
  rw [exec_read, Host.Outcome.next.injEq] at hload_read hread
  subst hload hload_read hread hread_load
  cases hhalted : s.halted with
  | true => simp [hhalted]
  | false =>
    cases hopen : s.msgOpen with
    | true => simp [hhalted, hopen]
    | false =>
      by_cases hinit : s.initState = InitState.configured.code
      · simp [effectOf_halted, effectOf_msgOpen, effectOf_initState, hhalted, hopen, hinit, effectOf_read_loadAux]
      · simp [effectOf_halted, effectOf_msgOpen, effectOf_initState, hhalted, hopen, hinit,
          raiseReject_effectOf_loadAux]

end Sys2Proof.Machine
end

section
/-! PROOFS. The steps of the initialization, one state at a time (40_sensor_interface.md R101 to R109), and what every
step of an initialization leaves unchanged. -/

namespace Sys2Proof.Machine

open Sys2Proof.Claims

variable {s t : State}

/-! ### The step of a safe state, by the turn -/

/-- The controller's turn of a safe state is its step, after the choice is taken off. -/
theorem step_of_controller (hsafe : s.safe = true) {cmd : Option Command} (hevent : s.event = .controller cmd) :
    step s = controllerStep cmd s.tick := by
  obtain ⟨hcfg, hnamed⟩ := safe_iff.mp hsafe
  rw [step_of_wellFormed hcfg, hevent]
  exact turn_controller (s := s.tick) hnamed cmd

/-- While the FSM is transient the controller's turn is an FSM step, whatever is presented (R117). -/
theorem step_of_transient (hsafe : s.safe = true) (htransient : s.transient = true) {cmd : Option Command}
    (hevent : s.event = .controller cmd) : step s = .next (fsmStep s.tick) := by
  rw [step_of_controller hsafe hevent]
  exact if_pos htransient

/-- With no byte waiting the transport's turn takes the choice off and does nothing else. -/
theorem step_of_transport (hsafe : s.safe = true) (htxq : s.txq = []) {ready : Bool}
    (hevent : s.event = .transport ready) : step s = .next s.tick := by
  obtain ⟨hcfg, hnamed⟩ := safe_iff.mp hsafe
  have hcode : s.tick.unnamedCode = none := hnamed
  rw [step_of_wellFormed hcfg, hevent, turn, hcode]
  exact congrArg _ (transportStep_nil s.tick ready htxq)

/-- But for a reset, a turn of an initialization is an FSM step if the controller has it, and else changes nothing. -/
theorem step_of_initialization (hsafe : s.safe = true) (htransient : s.transient = true) (htxq : s.txq = [])
    (hrst : s.event ≠ .rst) :
    step s = .next (if isControllerTurn s.event then fsmStep s.tick else s.tick) := by
  cases hevent : s.event with
  | rst => exact absurd hevent hrst
  | controller cmd => exact step_of_transient hsafe htransient hevent
  | transport ready => exact step_of_transport hsafe htxq hevent

theorem transient_of_code {i : InitState} (hcode : s.initState = i.code)
    (hi : i ∈ [.resetWr, .poll, .settle, .sprWr, .sprDly, .clkWr]) : s.transient = true := by
  revert hi
  rw [State.transient, hcode]
  cases i <;> decide

/-- The controller's turn in a named transient state. -/
theorem step_of_fsmTurn {i : InitState} (h : FsmTurn s i.code)
    (hi : i ∈ [.resetWr, .poll, .settle, .sprWr, .sprDly, .clkWr]) : step s = .next (fsmStep s.tick) := by
  obtain ⟨hsafe, ⟨cmd, hevent⟩, hcode⟩ := h
  exact step_of_transient hsafe (transient_of_code hcode hi) hevent

/-! ### Safe states stay safe -/

theorem named_fsmMove {c d : BitVec 4} (h : FsmMove c d) : d.toNat ≤ 8 := by
  revert c d
  decide

/-- No effect of a step brings an unnamed code. -/
theorem step_initState_le (hstep : step s = .next t) (h : s.initState.toNat ≤ 8) : t.initState.toNat ≤ 8 := by
  cases step_effect hstep with
  | reset => exact Nat.zero_le _
  | fsm _ _ htransient =>
    obtain hstay | hmove := fsmStep_initState_cases (s := s.tick) htransient
    · rwa [hstay]
    · exact named_fsmMove hmove
  | wait | reject | send => exact h
  | perform _ _ _ _ i =>
    by_cases hinit : i = .init
    · subst hinit
      exact Nat.one_le_ofNat
    · rwa [effectOf_initState hinit]

theorem step_rejCause_le (hstep : step s = .next t) (h : s.rejCause.toNat ≤ 4) : t.rejCause.toNat ≤ 4 := by
  cases step_effect hstep with
  | reset => exact Nat.zero_le _
  | fsm => simpa using h
  | wait | send => exact h
  | reject _ _ _ _ cause => exact firstCause_named h cause
  | perform => simpa using h

theorem step_safe (hstep : step s = .next t) (hsafe : s.safe = true) : t.safe = true := by
  obtain ⟨hcfg, hnamed⟩ := safe_iff.mp hsafe
  obtain ⟨hinit, hcause⟩ := (unnamedCode_eq_none s).mp hnamed
  rw [safe_iff, step_cfg hstep, unnamedCode_eq_none]
  exact ⟨hcfg, step_initState_le hstep hinit, step_rejCause_le hstep hcause⟩

/-! ### The writing states and the poll -/

/-- Settles O20: the FSM step of RESET_WR, as R101 writes it. -/
theorem resetWriteStep : Obligations.ResetWriteStep := by
  intro s hturn
  rw [step_of_fsmTurn (i := .resetWr) hturn (by decide), fsmStep_resetWr s.tick hturn.2.2]
  rfl

/-- Settles O23: the FSM step of SPR_WR, as R104 writes it. -/
theorem signalPathResetStep : Obligations.SignalPathResetStep := by
  intro s hturn
  rw [step_of_fsmTurn (i := .sprWr) hturn (by decide), fsmStep_sprWr s.tick hturn.2.2]
  rfl

/-- Settles O24: the FSM step of CLK_WR, as R106 writes it; CONFIGURED is not transient. -/
theorem clockWriteStep : Obligations.ClockWriteStep := by
  intro s hturn
  rw [step_of_fsmTurn (i := .clkWr) hturn (by decide), fsmStep_clkWr s.tick hturn.2.2]
  refine ⟨_, rfl, rfl, fun htxq => ?_⟩
  have hbusy : (fsmClkWr s.tick).busy = false := busy_eq_false_iff.mpr ⟨rfl, htxq⟩
  exact ⟨hbusy, by rw [State.cmdReady, hbusy]; rfl⟩

theorem sat32_toNat_eq_min (n : Nat) : (sat32 n).toNat = min n (2 ^ 32 - 1) := by
  rw [sat32, BitVec.toNat_ofNat]
  omega

theorem readsClear_iff {p : Params} {a : BusAnswer} : readsClear p a = true ↔ a.data[0] &&& p.resetMask = 0#8 :=
  decide_eq_true_iff

theorem readsClear_eq_false_iff {p : Params} {a : BusAnswer} :
    readsClear p a = false ↔ a.data[0] &&& p.resetMask ≠ 0#8 :=
  decide_eq_false_iff_not

/-- A poll as R102 writes it: the transaction, the new count, and then by the bit and the limit. -/
theorem fsmPoll_eq (s : State) : fsmPoll s =
    { transacted (pollOf s.cfg s.answer) s with
      pollCount := sat32 (s.pollCount.toNat + 1)
      delay := if readsClear s.cfg s.answer then s.cfg.tSettle else s.delay
      initState := (afterPoll s.cfg s.answer.data[0] (sat32 (s.pollCount.toNat + 1))).code } := by
  simp only [fsmPoll, State.busRead, take_one_data, readsClear, decide_eq_true_eq]
  rfl

/-- A poll that reads clear leads to SETTLE with its delay loaded. -/
theorem fsmPoll_of_clear (h : readsClear s.cfg s.answer = true) : fsmPoll s =
    { transacted (pollOf s.cfg s.answer) s with
      pollCount := sat32 (s.pollCount.toNat + 1), delay := s.cfg.tSettle, initState := InitState.settle.code } := by
  rw [fsmPoll_eq, if_pos h, afterPoll, if_pos (readsClear_iff.mp h)]

/-- A poll that reads set with its count at the limit ends the initialization (R102, R108). -/
theorem fsmPoll_of_limit (h : readsClear s.cfg s.answer = false) (hlimit : s.cfg.pollLimit ≠ 0#32)
    (hcount : s.cfg.pollLimit.toNat ≤ (sat32 (s.pollCount.toNat + 1)).toNat) : fsmPoll s =
    { transacted (pollOf s.cfg s.answer) s with
      pollCount := sat32 (s.pollCount.toNat + 1), initState := InitState.initTimeout.code } := by
  rw [fsmPoll_eq, h, afterPoll, if_neg (readsClear_eq_false_iff.mp h), if_pos ⟨hlimit, hcount⟩]
  rfl

/-- A poll that reads set below the limit, or with none, is followed by another. -/
theorem fsmPoll_of_set (hcode : s.initState = InitState.poll.code) (h : readsClear s.cfg s.answer = false)
    (hcount : s.cfg.pollLimit = 0#32 ∨ (sat32 (s.pollCount.toNat + 1)).toNat < s.cfg.pollLimit.toNat) :
    fsmPoll s = { transacted (pollOf s.cfg s.answer) s with pollCount := sat32 (s.pollCount.toNat + 1) } := by
  have hbelow : ¬ (s.cfg.pollLimit ≠ 0#32 ∧ (sat32 (s.pollCount.toNat + 1)).toNat ≥ s.cfg.pollLimit.toNat) :=
    fun ⟨hlimit, hreached⟩ => hcount.elim hlimit (Nat.not_lt.mpr hreached)
  rw [fsmPoll_eq, h, afterPoll, if_neg (readsClear_eq_false_iff.mp h), if_neg hbelow, ← hcode]
  rfl

/-- Settles O21: the FSM step of POLL, by what the poll reads and then by the limit. -/
theorem pollStep : Obligations.PollStep := by
  intro s n hturn hn
  have hcode : s.tick.initState = InitState.poll.code := hturn.2.2
  obtain rfl : n = sat32 (s.pollCount.toNat + 1) :=
    BitVec.eq_of_toNat_eq (hn.trans (sat32_toNat_eq_min _).symm)
  rw [step_of_fsmTurn (i := .poll) hturn (by decide), fsmStep_poll s.tick hcode]
  exact ⟨fun hclear => congrArg _ (fsmPoll_of_clear (s := s.tick) hclear),
    fun hset hlimit hcount => congrArg _ (fsmPoll_of_limit (s := s.tick) hset hlimit hcount),
    fun hset hcount => congrArg _ (fsmPoll_of_set (s := s.tick) hcode hset hcount)⟩

/-! ### A device whose bit never clears -/

@[simp] theorem tick_drawAt (s : State) (j : Nat) : s.tick.drawAt j = s.drawAt j := rfl

/-- After a transaction the coming answers are the later ones. -/
theorem drawAt_of_transaction (hdraws : t.draws = s.draws.tail) (hdrawn : t.drawn = s.drawn + 1) (j : Nat) :
    t.drawAt j = s.drawAt (j + 1) := by
  rw [State.drawAt, State.drawAt, hdraws, hdrawn, getD_tail, Nat.add_assoc, Nat.add_comm 1 j]

/-- What no step of an initialization changes: all of the block that neither the FSM nor the bus writes (R109). -/
structure FsmFrame (s t : State) : Prop where
  cfg : t.cfg = s.cfg
  record : t.record = s.record
  txq : t.txq = s.txq
  out : t.out = s.out
  msgOpen : t.msgOpen = s.msgOpen
  halted : t.halted = s.halted
  cmdRejected : t.cmdRejected = s.cmdRejected
  rejCause : t.rejCause = s.rejCause

theorem FsmFrame.refl (s : State) : FsmFrame s s := ⟨rfl, rfl, rfl, rfl, rfl, rfl, rfl, rfl⟩

theorem FsmFrame.trans {u : State} (h : FsmFrame s t) (h' : FsmFrame t u) : FsmFrame s u :=
  ⟨h'.cfg.trans h.cfg, h'.record.trans h.record, h'.txq.trans h.txq, h'.out.trans h.out,
    h'.msgOpen.trans h.msgOpen, h'.halted.trans h.halted, h'.cmdRejected.trans h.cmdRejected,
    h'.rejCause.trans h.rejCause⟩

theorem fsmFrame_tick (s : State) : FsmFrame s s.tick := ⟨rfl, rfl, rfl, rfl, rfl, rfl, rfl, rfl⟩

theorem fsmFrame_fsmStep (s : State) : FsmFrame s (fsmStep s) := by
  constructor <;> simp

/-- POLL of a safe block with unbounded polling and no byte waiting. -/
structure PollsForever (s : State) : Prop where
  safe : s.safe = true
  code : s.initState = InitState.poll.code
  txq : s.txq = []
  limit : s.cfg.pollLimit = 0#32

theorem PollsForever.busy (h : PollsForever s) : s.busy = true :=
  busy_iff.mpr (.inl (transient_of_code h.code (by decide)))

/-- If the next answer reads set, one step without a reset, whoever's turn it is, leads back to POLL, and at most the
next answer is taken. -/
theorem PollsForever.exists_step (h : PollsForever s) (hrst : s.event ≠ .rst)
    (hset : readsClear s.cfg (s.drawAt 0) = false) :
    ∃ t, step s = .next t ∧ PollsForever t ∧ FsmFrame s t ∧
      ((∀ j, t.drawAt j = s.drawAt j) ∨ ∀ j, t.drawAt j = s.drawAt (j + 1)) := by
  have hstep := step_of_initialization h.safe (transient_of_code h.code (by decide)) h.txq hrst
  refine ⟨_, hstep, ?_⟩
  have hsafe := step_safe hstep h.safe
  cases hturn : isControllerTurn s.event with
  | false =>
    simp only [hturn, Bool.false_eq_true, if_false] at hsafe ⊢
    exact ⟨⟨hsafe, h.code, h.txq, h.limit⟩, fsmFrame_tick s, .inl (tick_drawAt s)⟩
  | true =>
    simp only [hturn, if_true] at hsafe ⊢
    have hframe := (fsmFrame_tick s).trans (fsmFrame_fsmStep s.tick)
    rw [← answer_eq_drawAt] at hset
    have hpoll : fsmStep s.tick = { transacted (pollOf s.cfg s.answer) s.tick with
        pollCount := sat32 (s.pollCount.toNat + 1) } :=
      (fsmStep_poll s.tick h.code).trans (fsmPoll_of_set (s := s.tick) h.code hset (.inl h.limit))
    refine ⟨⟨hsafe, ?_, hframe.txq.trans h.txq, hframe.cfg ▸ h.limit⟩, hframe, .inr fun j => ?_⟩
    · rw [hpoll]
      exact h.code
    · exact drawAt_of_transaction (s := s) (by rw [hpoll]; rfl) (by rw [hpoll]; rfl) j

/-- While every answer reads set, a run of any length stays in POLL and changes nothing outside the FSM. -/
theorem PollsForever.exists_steps {n : Nat} (h : PollsForever s) (hrst : NoReset n s)
    (hset : ∀ j, j < n → readsClear s.cfg (s.drawAt j) = false) :
    ∃ t, Steps n s t ∧ PollsForever t ∧ FsmFrame s t := by
  induction n generalizing s with
  | zero => exact ⟨s, steps_zero.mpr rfl, h, .refl s⟩
  | succ n ih =>
    obtain ⟨u, hstep, hu, hframe, hdraws⟩ := h.exists_step hrst.head (hset 0 (Nat.succ_pos n))
    have hset' : ∀ j, j < n → readsClear u.cfg (u.drawAt j) = false := by
      intro j hj
      rw [hframe.cfg]
      obtain hsame | hlater := hdraws
      · exact hsame j ▸ hset j (Nat.lt_succ_of_lt hj)
      · exact hlater j ▸ hset (j + 1) (Nat.succ_lt_succ hj)
    obtain ⟨t, hsteps, ht, hframe'⟩ := ih hu (hrst.tail hstep) hset'
    exact ⟨t, steps_succ.mpr ⟨u, hstep, hsteps⟩, ht, hframe.trans hframe'⟩

/-- Settles O26: a run from POLL stays there by `PollsForever.exists_steps`, where the block is busy. -/
theorem neverClearingDeviceHangs : Obligations.NeverClearingDeviceHangs := by
  intro n s hsafe hcode htxq hlimit hrst hset
  obtain ⟨t, hsteps, ht, hframe⟩ := PollsForever.exists_steps ⟨hsafe, hcode, htxq, hlimit⟩ hrst hset
  have hready : t.cmdReady = false := by rw [State.cmdReady, ht.busy]; rfl
  exact ⟨t, hsteps, ht.code, ht.busy, hready, ht.txq, hframe.out, hframe.record, hframe.halted, hframe.msgOpen,
    hframe.cmdRejected, hframe.rejCause⟩

end Sys2Proof.Machine
end

section
/-! PROOFS. No acknowledge decides anything but `BUS_ERR` (40_sensor_interface.md R115, 60_exceptions.md R172): each
operation of a step, seen with the acknowledges erased, depends only on its state with the acknowledges erased. -/

namespace Sys2Proof.Machine

open Sys2Proof.Claims

variable {s t : State}

/-! ### Erasing acknowledges -/

@[simp] theorem withoutAck_withoutAck (x : BusTransaction) : withoutAck (withoutAck x) = withoutAck x := by
  cases x <;> rfl

@[simp] theorem blind_blind (s : State) : blind (blind s) = blind s := by
  simp [blind, Function.comp_def]

/-- The bytes of the next answer are what they were. -/
@[simp] theorem blind_answer_data (s : State) : (blind s).answer.data = s.answer.data := by
  cases hdraws : s.draws <;> simp [State.answer, blind, hdraws]

@[simp] theorem blind_cfg (s : State) : (blind s).cfg = s.cfg := rfl

/-- With acknowledges erased, the effect of `f` depends only on its state with the acknowledges erased. -/
def IgnoresAcks (f : State → State) : Prop := ∀ s, blind (f s) = blind (f (blind s))

/-- An operation that reads no acknowledge and makes no transaction commutes with erasing them. -/
theorem ignoresAcks_of_commutes {f : State → State} (h : ∀ s, blind (f s) = f (blind s)) : IgnoresAcks f :=
  fun s => by rw [← h, blind_blind]

theorem ignoresAcks_id : IgnoresAcks id := ignoresAcks_of_commutes fun _ => rfl

/-! ### Transactions -/

@[simp] theorem blind_transact (x : BusTransaction) (s : State) :
    blind (s.transact x) = (blind s).transact (withoutAck x) := by
  simp [blind, State.transact]

@[simp] theorem blind_latchBusErr (ok : Bool) (s : State) : blind (s.latchBusErr ok) = blind s := rfl

theorem blind_busWrite (reg v : Byte) (s : State) : blind (s.busWrite reg v) = blind ((blind s).busWrite reg v) := by
  simp [State.busWrite, withoutAck]

theorem blind_busRead (reg : Byte) (n : Nat) (s : State) :
    blind (s.busRead reg n) = blind ((blind s).busRead reg n) := by
  simp [State.busRead, withoutAck]

/-! ### The FSM -/

theorem ignoresAcks_fsmResetWr : IgnoresAcks fsmResetWr := fun s =>
  congrArg (fun t => { t with pollCount := 0#32, initState := InitState.poll.code })
    (blind_busWrite s.cfg.regPwr s.cfg.pwrResetValue s)

/-- The bit test is on the drawn byte, whatever the acknowledge (R115). -/
theorem ignoresAcks_fsmPoll : IgnoresAcks fsmPoll := fun s => by
  simp only [fsmPoll, blind_answer_data]
  exact congrArg (fun t => { t with
      pollCount := sat32 (s.pollCount.toNat + 1)
      delay := if s.answer.data[0] &&& s.cfg.resetMask = 0#8 then s.cfg.tSettle else s.delay
      initState := (afterPoll s.cfg s.answer.data[0] (sat32 (s.pollCount.toNat + 1))).code })
    (blind_busRead s.cfg.regResetStatus 1 s)

theorem ignoresAcks_delayStep (exit : InitState) : IgnoresAcks (delayStep exit) :=
  ignoresAcks_of_commutes fun _ => apply_ite blind _ _ _

theorem ignoresAcks_fsmSprWr : IgnoresAcks fsmSprWr := fun s =>
  congrArg (fun t => { t with delay := s.cfg.tSpr, initState := InitState.sprDly.code })
    (blind_busWrite s.cfg.regSpr s.cfg.sprValue s)

theorem ignoresAcks_fsmClkWr : IgnoresAcks fsmClkWr := fun s =>
  congrArg (fun t => { t with initState := InitState.configured.code })
    (blind_busWrite s.cfg.regPwr s.cfg.pwrRunValue s)

theorem ignoresAcks_fsmStep : IgnoresAcks fsmStep := by
  intro s
  have hcode : (blind s).initState = s.initState := rfl
  simp only [fsmStep, hcode]
  cases InitState.ofCode s.initState with
  | none => exact ignoresAcks_id s
  | some i =>
    cases i with
    | resetWr => exact ignoresAcks_fsmResetWr s
    | poll => exact ignoresAcks_fsmPoll s
    | settle => exact ignoresAcks_delayStep .sprWr s
    | sprWr => exact ignoresAcks_fsmSprWr s
    | sprDly => exact ignoresAcks_delayStep .clkWr s
    | clkWr => exact ignoresAcks_fsmClkWr s
    | idle | configured | initTimeout => exact ignoresAcks_id s

/-! ### Commands and the transport -/

/-- READ decodes the drawn bytes, whatever the acknowledge (R115). -/
theorem ignoresAcks_burstRead : IgnoresAcks burstRead := fun s => by
  simp only [burstRead, blind_answer_data]
  exact congrArg (fun t => { t with record := s.record.withBurst s.answer.data })
    (blind_busRead s.cfg.burstStartReg burstLen s)

theorem ignoresAcks_effectOf (i : Instr) : IgnoresAcks (effectOf i) := by
  cases i with
  | read => exact ignoresAcks_burstRead
  | init | loadAux | dataStart | dataElement | dataEnd | heartbeat | msgOpen | msgChar | msgClose | errorCode
  | fatal => exact ignoresAcks_of_commutes fun _ => rfl

theorem ignoresAcks_raiseReject (cause : RejCause) : IgnoresAcks (State.raiseReject cause) :=
  ignoresAcks_of_commutes fun _ => rfl

theorem ignoresAcks_applyReset : IgnoresAcks State.applyReset := ignoresAcks_of_commutes fun _ => rfl

theorem ignoresAcks_transportStep (ready : Bool) : IgnoresAcks (State.transportStep ready) :=
  ignoresAcks_of_commutes fun s => by
    have htxq : (blind s).txq = s.txq := rfl
    simp only [State.transportStep, htxq]
    cases ready <;> cases s.txq <;> rfl

/-! ### The step and its runs -/

/-- An outcome with the acknowledges of its state erased. -/
def blindOutcome : Host.Outcome State Fault Refusal → Host.Outcome State Fault Refusal
  | .next t => .next (blind t)
  | .fault r => .fault r
  | .refused r => .refused r

theorem IgnoresAcks.next {f : State → State} (h : IgnoresAcks f) (s : State) :
    blindOutcome (.next (f s)) = blindOutcome (.next (f (blind s))) := congrArg Host.Outcome.next (h s)

theorem blindOutcome_eq_next {o : Host.Outcome State Fault Refusal} (h : blindOutcome o = .next t) :
    ∃ t', o = .next t' ∧ blind t' = t := by
  cases o with
  | next t' => exact ⟨t', rfl, Host.Outcome.next.inj h⟩
  | fault | refused => cases h

/-- The checks at acceptance read no acknowledge (R176). -/
theorem blindOutcome_accept {effect : State → State} (h : IgnoresAcks effect) (op : Byte) (s : State) :
    blindOutcome (accept op effect s) = blindOutcome (accept op effect (blind s)) := by
  have hverdict : verdict op (blind s) = verdict op s := rfl
  simp only [accept, hverdict]
  cases verdict op s with
  | drop => exact ignoresAcks_id.next s
  | reject cause => exact (ignoresAcks_raiseReject cause).next s
  | perform => exact h.next s

theorem blindOutcome_acceptWord (w : Command) (s : State) :
    blindOutcome (acceptWord w s) = blindOutcome (acceptWord w (blind s)) := by
  unfold acceptWord
  cases decode w with
  | ok i =>
    simp only [exec_eq_accept]
    exact blindOutcome_accept (ignoresAcks_effectOf i) _ s
  | error e =>
    obtain ⟨op⟩ := e
    exact blindOutcome_accept ignoresAcks_id op s

theorem blindOutcome_controllerStep (cmd : Option Command) (s : State) :
    blindOutcome (controllerStep cmd s) = blindOutcome (controllerStep cmd (blind s)) := by
  have htransient : (blind s).transient = s.transient := rfl
  have htxq : (blind s).txq = s.txq := rfl
  simp only [controllerStep, htransient, htxq]
  split
  · exact ignoresAcks_fsmStep.next s
  · split
    · exact ignoresAcks_id.next s
    · cases cmd with
      | none => exact ignoresAcks_id.next s
      | some w => exact blindOutcome_acceptWord w s

theorem blindOutcome_turn (e : Event) (s : State) : blindOutcome (turn e s) = blindOutcome (turn e (blind s)) := by
  have hcode : (blind s).unnamedCode = s.unnamedCode := rfl
  simp only [turn, hcode]
  cases e with
  | rst => exact ignoresAcks_applyReset.next s
  | controller cmd =>
    cases s.unnamedCode with
    | some f => rfl
    | none => exact blindOutcome_controllerStep cmd s
  | transport ready =>
    cases s.unnamedCode with
    | some f => rfl
    | none => exact (ignoresAcks_transportStep ready).next s

theorem blindOutcome_step (s : State) : blindOutcome (step s) = blindOutcome (step (blind s)) := by
  have hcfg : (blind s).cfg = s.cfg := rfl
  simp only [step, hcfg]
  split
  · exact blindOutcome_turn s.event s.tick
  · rfl

/-- One step from two states that differ only in acknowledges. -/
theorem step_of_blind_eq {s' : State} (h : blind s = blind s') (hstep : step s = .next t) :
    ∃ t', step s' = .next t' ∧ blind t' = blind t := by
  apply blindOutcome_eq_next
  calc blindOutcome (step s')
    _ = blindOutcome (step (blind s')) := blindOutcome_step s'
    _ = blindOutcome (step (blind s)) := by rw [h]
    _ = blindOutcome (step s) := (blindOutcome_step s).symm
    _ = .next (blind t) := by rw [hstep, blindOutcome]

/-- Settles O46, by induction on the number of steps: each keeps the two runs equal but for the acknowledges. -/
theorem acknowledgesDecideNothingElse : Obligations.AcknowledgesDecideNothingElse := by
  intro n
  induction n with
  | zero =>
    intro s s' t h hrun
    exact ⟨s', steps_zero.mpr rfl, (steps_zero.mp hrun) ▸ h.symm⟩
  | succ n ih =>
    intro s s' t h hrun
    obtain ⟨u, hstep, hrest⟩ := steps_succ.mp hrun
    obtain ⟨u', hstep', hu⟩ := step_of_blind_eq h hstep
    obtain ⟨t', hrest', ht⟩ := ih u u' t hu.symm hrest
    exact ⟨t', steps_succ.mpr ⟨u', hstep', hrest'⟩, ht⟩

end Sys2Proof.Machine
end

section
/-! PROOFS. The sensor commands INIT, READ and LOAD_AUX (40_sensor_interface.md R100, R110 to R113). -/

namespace Sys2Proof.Machine

open Sys2Proof.Claims

variable {s e : State} {i : Instr}

/-- A command that is dropped when halted, rejected in a message, and otherwise performed. -/
theorem closedCommand_of_exec
    (h : exec i s = .next (if s.halted then s else if s.msgOpen then s.raiseReject .msgInProgress else e)) :
    ClosedCommand i s e := by
  refine ⟨fun hhalted => ?_, fun hhalted hopen => ?_, fun hhalted hopen => ?_⟩ <;> rw [h, hhalted]
  · rfl
  · rw [hopen]
    rfl
  · rw [hopen]
    rfl

/-- A command that is dropped when halted, rejected in a message or in another state than the required one, and
otherwise performed. -/
theorem sensorCommand_of_exec {code : BitVec 4}
    (h : exec i s = .next (if s.halted then s else if s.msgOpen then s.raiseReject .msgInProgress
      else if s.initState = code then e else s.raiseReject .initState)) : SensorCommand i code s e := by
  obtain ⟨hdrop, hreject, hclosed⟩ := closedCommand_of_exec h
  refine ⟨hdrop, hreject, fun hhalted hopen hcode => ?_, fun hhalted hopen hcode => ?_⟩
  · rw [hclosed hhalted hopen, if_neg hcode]
    rfl
  · rw [hclosed hhalted hopen, if_pos hcode]

/-- INIT at any block: dropped, rejected for an open message or an initialization begun before, or performed. -/
theorem exec_init (s : State) :
    exec .init s = .next (if s.halted then s else if s.msgOpen then s.raiseReject .msgInProgress
      else if s.initState = InitState.idle.code then effectOf .init s else s.raiseReject .initState) := by
  rw [exec_eq_accept, accept, Instr.opcode, verdict_init]
  cases s.halted <;> cases s.msgOpen <;> by_cases h : s.initState = InitState.idle.code <;> simp [h]

/-- Settles O17, by the cases of INIT's acceptance. -/
theorem initStartsTheSequence : Obligations.InitStartsTheSequence := fun s => sensorCommand_of_exec (exec_init s)

/-- The burst takes all fourteen bytes of the answer (R111). -/
theorem take_burstLen (b : Vector Byte 14) : b.toList.take burstLen = b.toList :=
  List.take_of_length_le (by simp [burstLen])

/-- Settles O18, by the cases of READ's acceptance; its effect decodes the next answer. -/
theorem readFillsTheMotionFields : Obligations.ReadFillsTheMotionFields := by
  intro s b ok hanswer
  have hnext : s.answer = ⟨ok, b⟩ := hanswer
  have heffect : effectOf .read s =
      { transacted (.read s.cfg.devAddr s.cfg.burstStartReg b.toList ok) s with record := s.record.withBurst b } := by
    rw [effectOf, burstRead, State.busRead, hnext, take_burstLen, transacted, hanswer]
    rfl
  have hexec := exec_read s
  rw [heffect] at hexec
  exact sensorCommand_of_exec hexec

/-- Settles O19, by the cases of LOAD_AUX's acceptance, which depend on no initialization state. -/
theorem loadAuxStoresTheHostFields : Obligations.LoadAuxStoresTheHostFields := fun s ts an b0 b1 =>
  closedCommand_of_exec (exec_loadAux ts an b0 b1 s)

end Sys2Proof.Machine
end

section
/-! PROOFS. Runs in which every turn is the controller's: their states, their `INIT_STATE` over time, and how such runs
are put together (40_sensor_interface.md R102, R103, R105, R108). -/

namespace Sys2Proof.Machine

open Sys2Proof.Claims

variable {s t u : State} {p : Params} {m n : Nat}

/-! ### The environment along a run -/

theorem steps_one : Steps 1 s t ↔ step s = .next t := by
  simp [steps_succ]

/-- A run of one step more ends with a step. -/
theorem steps_succ_last : Steps (n + 1) s t ↔ ∃ u, Steps n s u ∧ step u = .next t := by
  simp only [steps_add, steps_one]

/-- A run is determined by its first state and its length. -/
theorem steps_unique (h : Steps n s t) (h' : Steps n s u) : t = u :=
  Host.Outcome.next.inj (h.symm.trans h')

theorem steps_safe (hrun : Steps n s t) (hsafe : s.safe = true) : t.safe = true := by
  induction n generalizing s with
  | zero => exact steps_zero.mp hrun ▸ hsafe
  | succ n ih =>
    obtain ⟨u, hstep, hrest⟩ := steps_succ.mp hrun
    exact ih hrest (step_safe hstep hsafe)

/-- After a run the environment's choices are the later ones. -/
theorem eventAt_steps (hrun : Steps m s t) (j : Nat) : t.eventAt j = s.eventAt (m + j) := by
  induction m generalizing s with
  | zero => rw [steps_zero.mp hrun, Nat.zero_add]
  | succ m ih =>
    obtain ⟨u, hstep, hrest⟩ := steps_succ.mp hrun
    rw [ih hrest, eventAt_step hstep, Nat.add_right_comm]

theorem steps_events (hrun : Steps n s t) : t.events = s.events.drop n := by
  induction n generalizing s with
  | zero => rw [steps_zero.mp hrun, List.drop_zero]
  | succ n ih =>
    obtain ⟨u, hstep, hrest⟩ := steps_succ.mp hrun
    rw [ih hrest, (step_events hstep).1, List.drop_tail]

theorem isControllerTurn_iff {e : Event} : isControllerTurn e = true ↔ ∃ cmd, e = .controller cmd := by
  cases e <;> simp [isControllerTurn]

/-- All of the coming `n` turns are the controller's exactly when their count is `n`. -/
theorem controllerTurns_eq_iff : controllerTurns s n = n ↔ ∀ j, j < n → ∃ cmd, s.eventAt j = .controller cmd := by
  have hcount := List.length_filter_eq_length_iff (l := List.range n) (p := fun j => isControllerTurn (s.eventAt j))
  rw [List.length_range] at hcount
  simpa [controllerTurns, isControllerTurn_iff] using hcount

/-- A safe block with the parameters `p` whose coming `n` turns are all the controller's. -/
structure Driven (p : Params) (n : Nat) (s : State) : Prop where
  safe : s.safe = true
  cfg : s.cfg = p
  turns : ∀ j, j < n → ∃ cmd, s.eventAt j = .controller cmd

theorem Driven.mono (h : Driven p n s) (hle : m ≤ n) : Driven p m s :=
  ⟨h.safe, h.cfg, fun j hj => h.turns j (Nat.lt_of_lt_of_le hj hle)⟩

/-- What is left of the controller's turns after a run. -/
theorem Driven.drop (h : Driven p (m + n) s) (hrun : Steps m s t) : Driven p n t :=
  ⟨steps_safe hrun h.safe, (configurationNeverChanges m s t hrun).trans h.cfg, fun j hj => by
    rw [eventAt_steps hrun]
    exact h.turns (m + j) (Nat.add_lt_add_left hj m)⟩

/-- In a transient state a turn of the controller is an FSM step. -/
theorem Driven.step (h : Driven p (n + 1) s) (htransient : s.transient = true) :
    step s = .next (fsmStep s.tick) := by
  obtain ⟨cmd, hevent⟩ := h.turns 0 (Nat.succ_pos n)
  exact step_of_transient h.safe htransient ((event_eq_eventAt s).trans hevent)

/-! ### Delay states -/

/-- The two delay states with the states they lead to (R103, R105). -/
def IsDelay (i exit : InitState) : Prop := (i = .settle ∧ exit = .sprWr) ∨ (i = .sprDly ∧ exit = .clkWr)

variable {i exit : InitState}

theorem transient_of_isDelay (hdelay : IsDelay i exit) (hcode : s.initState = i.code) : s.transient = true := by
  obtain ⟨rfl, rfl⟩ | ⟨rfl, rfl⟩ := hdelay <;> exact transient_of_code hcode (by decide)

theorem fsmStep_of_isDelay (hdelay : IsDelay i exit) (hcode : s.initState = i.code) :
    fsmStep s = delayStep exit s := by
  obtain ⟨rfl, rfl⟩ | ⟨rfl, rfl⟩ := hdelay
  · exact fsmStep_settle s hcode
  · exact fsmStep_sprDly s hcode

/-- The controller's turn in a delay state whose count is 0 leaves it. -/
theorem step_of_delay_zero (hdelay : IsDelay i exit) (hcode : s.initState = i.code) (h : Driven p (n + 1) s)
    (hzero : s.delay = 0#32) : step s = .next { s.tick with initState := exit.code } := by
  rw [h.step (transient_of_isDelay hdelay hcode), fsmStep_of_isDelay (s := s.tick) hdelay hcode]
  exact congrArg _ (if_pos hzero)

/-- The controller's turn in a delay state whose count is not 0 counts down. -/
theorem step_of_delay_ne_zero (hdelay : IsDelay i exit) (hcode : s.initState = i.code) (h : Driven p (n + 1) s)
    (hrunning : s.delay ≠ 0#32) : step s = .next { s.tick with delay := s.delay - 1#32 } := by
  rw [h.step (transient_of_isDelay hdelay hcode), fsmStep_of_isDelay (s := s.tick) hdelay hcode]
  exact congrArg _ (if_neg hrunning)

/-- The block after `j` ticks of a delay. -/
def delayed (j : Nat) (s : State) : State :=
  { s with delay := s.delay - BitVec.ofNat 32 j, events := s.events.drop j, now := s.now + j }

theorem delayed_succ (j : Nat) (s : State) :
    delayed (j + 1) s = { (delayed j s).tick with delay := (delayed j s).delay - 1#32 } := by
  simp [delayed, State.tick, BitVec.ofNat_add, sub_sub, Nat.add_assoc]

/-- Before all ticks are taken the count is not 0. -/
theorem delayed_delay_ne_zero {j : Nat} (h : j < s.delay.toNat) : (delayed j s).delay ≠ 0#32 := by
  intro hzero
  have hcount := congrArg BitVec.toNat (sub_eq_zero.mp hzero)
  rw [BitVec.toNat_ofNat] at hcount
  exact absurd (Nat.mod_le j (2 ^ 32)) (by omega)

/-- After all ticks it is. -/
theorem delayed_delay_eq_zero (s : State) : (delayed s.delay.toNat s).delay = 0#32 := by
  simp [delayed]

/-- The ticks of a delay, one at each of the controller's turns. -/
theorem steps_delayed (hdelay : IsDelay i exit) (hcode : s.initState = i.code) (h : Driven p m s)
    (hm : m ≤ s.delay.toNat) : Steps m s (delayed m s) := by
  induction m with
  | zero => exact steps_zero.mpr (by simp [delayed])
  | succ m ih =>
    have hrun := ih (h.mono (Nat.le_succ m)) (Nat.le_of_succ_le hm)
    have hstep := step_of_delay_ne_zero (s := delayed m s) hdelay hcode (h.drop hrun) (delayed_delay_ne_zero hm)
    exact steps_succ_last.mpr ⟨_, hrun, delayed_succ m s ▸ hstep⟩

/-- The block after a delay. -/
def afterDelay (exit : InitState) (s : State) : State :=
  { (delayed s.delay.toNat s).tick with initState := exit.code }

/-- A delay and its exit step. -/
theorem steps_afterDelay (hdelay : IsDelay i exit) (hcode : s.initState = i.code)
    (h : Driven p (s.delay.toNat + 1) s) : Steps (s.delay.toNat + 1) s (afterDelay exit s) := by
  have hrun := steps_delayed hdelay hcode (h.mono (Nat.le_succ _)) le_rfl
  exact steps_succ_last.mpr ⟨_, hrun,
    step_of_delay_zero (s := delayed _ s) hdelay hcode (h.drop hrun) (delayed_delay_eq_zero s)⟩

/-- Settles O22: one step by whether the count is 0, and the run by its states `delayed j` and `afterDelay`. -/
theorem delayStatesLastExactly : Obligations.DelayStatesLastExactly := by
  intro code exit' hcodes
  obtain ⟨i, exit, hdelay, rfl, rfl⟩ : ∃ i exit, IsDelay i exit ∧ code = i.code ∧ exit' = exit.code := by
    obtain ⟨rfl, rfl⟩ | ⟨rfl, rfl⟩ := hcodes
    · exact ⟨.settle, .sprWr, .inl ⟨rfl, rfl⟩, rfl, rfl⟩
    · exact ⟨.sprDly, .clkWr, .inr ⟨rfl, rfl⟩, rfl, rfl⟩
  intro s hsafe hcode
  have hturn : ∀ cmd, s.event = .controller cmd → Driven s.cfg 1 s := fun cmd hevent =>
    ⟨hsafe, rfl, fun j hj => ⟨cmd, by rw [Nat.lt_one_iff.mp hj, ← event_eq_eventAt, hevent]⟩⟩
  refine ⟨fun cmd hevent hzero => step_of_delay_zero hdelay hcode (hturn cmd hevent) hzero,
    fun cmd hevent hrunning => step_of_delay_ne_zero hdelay hcode (hturn cmd hevent) hrunning, fun hturns => ?_⟩
  have h : Driven s.cfg (s.delay.toNat + 1) s := ⟨hsafe, rfl, controllerTurns_eq_iff.mp hturns⟩
  refine ⟨⟨_, steps_afterDelay hdelay hcode h, rfl, delayed_delay_eq_zero s⟩, fun j t hj hrun => ?_⟩
  have hstay := steps_delayed hdelay hcode (h.mono (Nat.le_succ_of_le hj)) hj
  rw [steps_unique hrun hstay]
  exact hcode

/-! ### Polls that read set -/

/-- The oracle's answers to the coming `m` transactions. -/
def nextAnswers (m : Nat) (s : State) : List BusAnswer := (List.range m).map s.drawAt

theorem nextAnswers_succ (m : Nat) (s : State) : nextAnswers (m + 1) s = nextAnswers m s ++ [s.drawAt m] := by
  simp [nextAnswers, List.range_succ]

/-- The block after `m` polls that lead back to POLL. -/
def polled (m : Nat) (s : State) : State :=
  { s with
    pollCount := sat32 (s.pollCount.toNat + m)
    busErr := s.busErr || (nextAnswers m s).any fun a => !a.ok
    bus := s.bus ++ (nextAnswers m s).map (pollOf s.cfg)
    draws := s.draws.drop m
    drawn := s.drawn + m
    events := s.events.drop m
    now := s.now + m }

theorem sat32_toNat_self (x : Word) : sat32 x.toNat = x :=
  BitVec.eq_of_toNat_eq (sat32_toNat x.isLt)

/-- Saturating counts add up. -/
theorem sat32_sat32_add (a b : Nat) : sat32 ((sat32 a).toNat + b) = sat32 (a + b) := by
  apply BitVec.eq_of_toNat_eq
  simp only [sat32_toNat_eq_min]
  omega

theorem polled_zero (s : State) : polled 0 s = s := by
  simp [polled, nextAnswers, sat32_toNat_self]

theorem drawAt_polled (m : Nat) (s : State) (j : Nat) : (polled m s).drawAt j = s.drawAt (m + j) := by
  simp [State.drawAt, polled, List.getD_eq_getElem?_getD, Nat.add_assoc]

/-- The answer to the poll after `m` polls. -/
theorem answer_polled (m : Nat) (s : State) : (polled m s).tick.answer = s.drawAt m :=
  (answer_eq_drawAt _).trans (drawAt_polled m s 0)

theorem polled_succ (m : Nat) (s : State) : polled (m + 1) s =
    { transacted (pollOf s.cfg (polled m s).tick.answer) (polled m s).tick with
      pollCount := sat32 ((polled m s).pollCount.toNat + 1) } := by
  have hnext : nextAnswer (polled m s).tick = (polled m s).tick.answer := rfl
  simp only [transacted, hnext, answer_polled]
  simp [polled, nextAnswers_succ, sat32_sat32_add, Nat.add_assoc, Bool.or_assoc]

/-- The count after `m` polls is below the limit, if there is one. -/
def BelowLimit (m : Nat) (s : State) : Prop :=
  s.cfg.pollLimit = 0#32 ∨ s.pollCount.toNat + m < s.cfg.pollLimit.toNat

/-- The poll after `m` polls. -/
theorem step_polled (hcode : s.initState = InitState.poll.code) (h : Driven p (m + 1) s)
    (hrun : Steps m s (polled m s)) : step (polled m s) = .next (fsmPoll (polled m s).tick) := by
  rw [(h.drop hrun).step (transient_of_code (s := polled m s) (i := .poll) hcode (by decide)),
    fsmStep_poll (polled m s).tick hcode]

/-- Polls that read set below the limit, one at each of the controller's turns. -/
theorem steps_polled (hcode : s.initState = InitState.poll.code) (h : Driven p m s)
    (hset : ∀ j, j < m → readsClear s.cfg (s.drawAt j) = false) (hlimit : BelowLimit m s) :
    Steps m s (polled m s) := by
  induction m with
  | zero => exact steps_zero.mpr (polled_zero s).symm
  | succ m ih =>
    have hrun := ih (h.mono (Nat.le_succ m)) (fun j hj => hset j (Nat.lt_succ_of_lt hj))
      (hlimit.imp_right Nat.lt_of_succ_lt)
    have hnext : readsClear s.cfg (polled m s).tick.answer = false :=
      answer_polled m s ▸ hset m (Nat.lt_succ_self m)
    have hbelow : s.cfg.pollLimit = 0#32 ∨
        (sat32 ((polled m s).pollCount.toNat + 1)).toNat < s.cfg.pollLimit.toNat := by
      refine hlimit.imp_right fun hlt => ?_
      rw [polled, sat32_sat32_add, sat32_toNat_eq_min]
      omega
    refine steps_succ_last.mpr ⟨_, hrun, ?_⟩
    rw [step_polled hcode h hrun, fsmPoll_of_set (s := (polled m s).tick) hcode hnext hbelow, polled_succ]
    rfl

/-- The poll that meets the limit: the same poll, with INIT_TIMEOUT after it (R108). -/
theorem step_polled_of_limit (hcode : s.initState = InitState.poll.code) (h : Driven p (m + 1) s)
    (hrun : Steps m s (polled m s)) (hset : readsClear s.cfg (s.drawAt m) = false)
    (hlimit : s.cfg.pollLimit ≠ 0#32) (hcount : (polled (m + 1) s).pollCount = s.cfg.pollLimit) :
    step (polled m s) = .next { polled (m + 1) s with initState := InitState.initTimeout.code } := by
  have hnext : readsClear s.cfg (polled m s).tick.answer = false := answer_polled m s ▸ hset
  rw [polled_succ] at hcount ⊢
  rw [step_polled hcode h hrun]
  exact congrArg _ (fsmPoll_of_limit (s := (polled m s).tick) hnext hlimit (congrArg BitVec.toNat hcount).ge)

/-- Settles O27: the polls before the last lead through `polled j`, and the last one meets the limit. -/
theorem boundedPollTimesOut : Obligations.BoundedPollTimesOut := by
  intro s l hsafe hcode hcount htxq hl hpos hturns hset
  have h : Driven s.cfg l s := ⟨hsafe, rfl, controllerTurns_eq_iff.mp hturns⟩
  have hpollCount : ∀ j, (polled j s).pollCount = sat32 j := fun j => by simp [polled, hcount]
  have hrun : ∀ j, j < l → Steps j s (polled j s) := fun j hj =>
    steps_polled hcode (h.mono hj.le) (fun i hi => hset i (hi.trans hj)) (.inr (by simpa [hcount, hl] using hj))
  refine ⟨fun j u hj hu => ?_, ?_⟩
  · have hrange := s.cfg.pollLimit.isLt
    rw [steps_unique hu (hrun j hj), hpollCount, sat32_toNat (by omega)]
    exact ⟨hcode, rfl⟩
  · obtain ⟨m, rfl⟩ : ∃ m, l = m + 1 := ⟨l - 1, by omega⟩
    have hlimit : s.cfg.pollLimit ≠ 0#32 := fun hzero => by simp [hzero] at hl
    have hreached : (polled (m + 1) s).pollCount = s.cfg.pollLimit := by
      rw [hpollCount, ← hl, sat32_toNat_self]
    have hm := Nat.lt_succ_self m
    have hstep := step_polled_of_limit hcode h (hrun m hm) (hset m hm) hlimit hreached
    refine ⟨_, steps_succ_last.mpr ⟨_, hrun m hm, hstep⟩, rfl, hreached, busy_eq_false_iff.mpr ⟨rfl, htxq⟩, ?_⟩
    simp [polled, nextAnswers, Function.comp_def]

end Sys2Proof.Machine
end

section
/-! PROOFS. A completed INIT, leg by leg (40_sensor_interface.md R116): each leg is a run of controller turns with its
`INIT_STATE` over time and its transactions, and legs are put end to end. -/

namespace Sys2Proof.Machine

open Sys2Proof.Claims

variable {s t u : State} {p : Params} {m n : Nat} {f g : Nat → BitVec 4} {xs ys : List BusTransaction}

/-! ### Legs -/

/-- `n` steps lead from `s` to `t`, with `INIT_STATE` equal to `f j` after `j` of them; they make the transactions `xs`,
each with the next of the oracle's answers, and change nothing outside the FSM and the bus. -/
structure Leg (n : Nat) (f : Nat → BitVec 4) (xs : List BusTransaction) (s t : State) : Prop where
  steps : Steps n s t
  codes : ∀ j u, j < n → Steps j s u → u.initState = f j
  frame : FsmFrame s t
  bus : t.bus = s.bus ++ xs
  draws : t.draws = s.draws.drop xs.length

/-- Two legs end to end. -/
theorem Leg.trans (h : Leg m f xs s t) (h' : Leg n g ys t u) :
    Leg (m + n) (fun j => if j < m then f j else g (j - m)) (xs ++ ys) s u where
  steps := steps_add.mpr ⟨t, h.steps, h'.steps⟩
  codes j v hj hrun := by
    split
    · exact h.codes j v ‹_› hrun
    · obtain ⟨k, rfl⟩ : ∃ k, j = m + k := ⟨j - m, by omega⟩
      obtain ⟨w, hw, hrest⟩ := steps_add.mp hrun
      rw [Nat.add_sub_cancel_left]
      exact h'.codes k v (by omega) (steps_unique hw h.steps ▸ hrest)
  frame := h.frame.trans h'.frame
  bus := by rw [h'.bus, h.bus, List.append_assoc]
  draws := by rw [h'.draws, h.draws, List.drop_drop, List.length_append]

/-- The same leg, its `INIT_STATE` over time and its transactions written in another way. -/
theorem Leg.congr (h : Leg n f xs s t) (hcodes : ∀ j, j < n → f j = g j) (hxs : xs = ys) : Leg n g ys s t :=
  hxs ▸ ⟨h.steps, fun j u hj hrun => (h.codes j u hj hrun).trans (hcodes j hj), h.frame, h.bus, h.draws⟩

/-- A leg of one step. -/
theorem leg_of_step {code : BitVec 4} (hcode : s.initState = code) (hstep : step s = .next t) (hframe : FsmFrame s t)
    (hbus : t.bus = s.bus ++ xs) (hdraws : t.draws = s.draws.drop xs.length) : Leg 1 (fun _ => code) xs s t where
  steps := steps_one.mpr hstep
  codes j u hj hrun := by
    obtain rfl := Nat.lt_one_iff.mp hj
    exact steps_zero.mp hrun ▸ hcode
  frame := hframe
  bus := hbus
  draws := hdraws

theorem Driven.left (h : Driven p (m + n) s) : Driven p m s := h.mono (Nat.le_add_right m n)

theorem answer_of_draws {a : BusAnswer} {ds : List BusAnswer} (h : s.draws = a :: ds) : s.answer = a := by
  rw [State.answer, h, List.headD_cons]

/-- The acceptance of INIT in IDLE (R100). -/
theorem leg_init (hsafe : s.safe = true) (hcode : s.initState = InitState.idle.code) (htxq : s.txq = [])
    (hhalted : s.halted = false) (hclosed : s.msgOpen = false)
    (hevent : s.event = .controller (some (encode .init))) :
    Leg 1 (fun _ => InitState.idle.code) [] s (effectOf .init s.tick) := by
  have hstable : s.transient = false := by rw [State.transient, hcode]; rfl
  have hstep : step s = .next (effectOf .init s.tick) := by
    rw [step_of_accepts ⟨hsafe, hevent, busy_eq_false_iff.mpr ⟨hstable, htxq⟩⟩,
      acceptWord_of_decode (decodeEncodeRoundTrip .init), exec_init]
    simp [ticked, hhalted, hclosed, hcode, State.tick]
  exact leg_of_step hcode hstep ⟨rfl, rfl, rfl, rfl, rfl, rfl, rfl, rfl⟩ (List.append_nil _).symm rfl

/-- A leg of one FSM step. -/
theorem leg_fsmStep {i : InitState} (h : Driven p 1 s) (hcode : s.initState = i.code)
    (hi : i ∈ [.resetWr, .poll, .settle, .sprWr, .sprDly, .clkWr]) (hstep : fsmStep s.tick = t)
    (hbus : t.bus = s.bus ++ xs) (hdraws : t.draws = s.draws.drop xs.length) : Leg 1 (fun _ => i.code) xs s t := by
  subst hstep
  exact leg_of_step hcode (h.step (transient_of_code hcode hi)) ((fsmFrame_tick s).trans (fsmFrame_fsmStep _))
    hbus hdraws

theorem leg_resetWr (h : Driven p 1 s) (hcode : s.initState = InitState.resetWr.code) :
    Leg 1 (fun _ => InitState.resetWr.code) [.write p.devAddr p.regPwr p.pwrResetValue s.answer.ok] s
      (fsmResetWr s.tick) := by
  obtain rfl := h.cfg
  exact leg_fsmStep h hcode (by decide) (fsmStep_resetWr s.tick hcode) rfl List.drop_one.symm

theorem leg_sprWr (h : Driven p 1 s) (hcode : s.initState = InitState.sprWr.code) :
    Leg 1 (fun _ => InitState.sprWr.code) [.write p.devAddr p.regSpr p.sprValue s.answer.ok] s (fsmSprWr s.tick) := by
  obtain rfl := h.cfg
  exact leg_fsmStep h hcode (by decide) (fsmStep_sprWr s.tick hcode) rfl List.drop_one.symm

theorem leg_clkWr (h : Driven p 1 s) (hcode : s.initState = InitState.clkWr.code) :
    Leg 1 (fun _ => InitState.clkWr.code) [.write p.devAddr p.regPwr p.pwrRunValue s.answer.ok] s
      (fsmClkWr s.tick) := by
  obtain rfl := h.cfg
  exact leg_fsmStep h hcode (by decide) (fsmStep_clkWr s.tick hcode) rfl List.drop_one.symm

/-- A delay state, its exit step included. -/
theorem leg_delay {i exit : InitState} {d : Word} (hdelay : IsDelay i exit) (hcode : s.initState = i.code)
    (hd : s.delay = d) (h : Driven p (d.toNat + 1) s) :
    Leg (d.toNat + 1) (fun _ => i.code) [] s (afterDelay exit s) := by
  subst hd
  refine ⟨steps_afterDelay hdelay hcode h, fun j u hj hrun => ?_, ⟨rfl, rfl, rfl, rfl, rfl, rfl, rfl, rfl⟩,
    (List.append_nil _).symm, rfl⟩
  rw [steps_unique hrun (steps_delayed hdelay hcode (h.mono hj.le) (Nat.le_of_lt_succ hj))]
  exact hcode

/-- The polls that read set. -/
theorem leg_polled (hcode : s.initState = InitState.poll.code) (h : Driven p m s)
    (hset : ∀ j, j < m → readsClear s.cfg (s.drawAt j) = false) (hlimit : BelowLimit m s) :
    Leg m (fun _ => InitState.poll.code) ((nextAnswers m s).map (pollOf p)) s (polled m s) := by
  obtain rfl := h.cfg
  have hrun : ∀ j, j ≤ m → Steps j s (polled j s) := fun j hj =>
    steps_polled hcode (h.mono hj) (fun i hi => hset i (hi.trans_le hj)) (hlimit.imp_right (by omega))
  refine ⟨hrun m le_rfl, fun j u hj hu => ?_, ⟨rfl, rfl, rfl, rfl, rfl, rfl, rfl, rfl⟩, rfl, ?_⟩
  · rw [steps_unique hu (hrun j hj.le)]
    exact hcode
  · simp [polled, nextAnswers]

/-- The block after a poll that reads clear. -/
def cleared (s : State) : State :=
  { transacted (pollOf s.cfg s.answer) s.tick with
    pollCount := sat32 (s.pollCount.toNat + 1), delay := s.cfg.tSettle, initState := InitState.settle.code }

theorem leg_cleared (h : Driven p 1 s) (hcode : s.initState = InitState.poll.code)
    (hclear : readsClear s.cfg s.answer = true) :
    Leg 1 (fun _ => InitState.poll.code) [pollOf p s.answer] s (cleared s) := by
  obtain rfl := h.cfg
  exact leg_fsmStep h hcode (by decide) ((fsmStep_poll s.tick hcode).trans (fsmPoll_of_clear (s := s.tick) hclear))
    rfl List.drop_one.symm

/-! ### From SETTLE to CONFIGURED, and all of INIT -/

/-- `INIT_STATE` over time from SETTLE on. -/
def codesFromSettle (p : Params) (j : Nat) : BitVec 4 :=
  if j < p.tSettle.toNat + 1 then 3#4 else if j < p.tSettle.toNat + 2 then 4#4
  else if j < p.tSettle.toNat + p.tSpr.toNat + 3 then 5#4 else 6#4

/-- The legs after the polls: SETTLE, SPR_WR, SPR_DLY and CLK_WR, with the two answers they take. -/
theorem exists_leg_from_settle {a1 a2 : BusAnswer} {ds : List BusAnswer}
    (hcode : s.initState = InitState.settle.code) (hdelay : s.delay = p.tSettle) (hdraws : s.draws = a1 :: a2 :: ds)
    (h : Driven p (p.tSettle.toNat + 1 + (1 + (p.tSpr.toNat + 1 + 1))) s) :
    ∃ t, Leg (p.tSettle.toNat + 1 + (1 + (p.tSpr.toNat + 1 + 1))) (codesFromSettle p)
      [.write p.devAddr p.regSpr p.sprValue a1.ok, .write p.devAddr p.regPwr p.pwrRunValue a2.ok] s t ∧
      t.initState = InitState.configured.code ∧ t.pollCount = s.pollCount := by
  have hsettle := leg_delay (.inl ⟨rfl, rfl⟩) hcode hdelay h.left
  have h1 := h.drop hsettle.steps
  have hspr := leg_sprWr h1.left rfl
  have h2 := h1.drop hspr.steps
  have hdly := leg_delay (.inr ⟨rfl, rfl⟩) rfl (d := p.tSpr) (congrArg Params.tSpr h1.cfg) h2.left
  have h3 := h2.drop hdly.steps
  have hclk := leg_clkWr h3 rfl
  rw [answer_of_draws (hsettle.draws.trans hdraws)] at hspr
  rw [answer_of_draws ((hsettle.trans (hspr.trans hdly)).draws.trans (congrArg (List.drop 1) hdraws))] at hclk
  refine ⟨_, (hsettle.trans (hspr.trans (hdly.trans hclk))).congr (fun j _ => ?_) rfl, rfl,
    by simp [afterDelay, delayed]⟩
  exact if_congr .rfl rfl (if_congr (by omega) rfl (if_congr (by omega) rfl rfl))

/-- With the controller's turns listed, a safe block is driven through them. -/
theorem driven_of_events {cs : List (Option Command)} {es : List Event} (hsafe : s.safe = true)
    (h : s.events = cs.map Event.controller ++ es) : Driven s.cfg cs.length s :=
  ⟨hsafe, rfl, fun j hj => ⟨cs[j], by simp [State.eventAt, h, List.getElem?_append_left, hj]⟩⟩

/-- The listed answers are the next ones. -/
theorem nextAnswers_of_draws {as rest : List BusAnswer} (h : s.draws = as ++ rest) : nextAnswers as.length s = as := by
  apply List.ext_getElem
  · simp [nextAnswers]
  · intro j hj hj'
    simp [nextAnswers, State.drawAt, h, List.getElem?_append_left hj', hj']

/-- The legs of POLL, with the answers they take: the first that reads clear is the last. -/
theorem exists_leg_poll {c : BusAnswer} {polls ds : List BusAnswer} (hcode : s.initState = InitState.poll.code)
    (hcount : s.pollCount = 0#32) (hdraws : s.draws = polls ++ c :: ds) (h : Driven p (polls.length + 1) s)
    (hset : ∀ a, a ∈ polls → readsClear p a = false) (hclear : readsClear p c = true)
    (hlimit : p.pollLimit = 0#32 ∨ polls.length < p.pollLimit.toNat) :
    ∃ t, Leg (polls.length + 1) (fun _ => InitState.poll.code) (polls.map (pollOf p) ++ [pollOf p c]) s t ∧
      t.initState = InitState.settle.code ∧ t.delay = p.tSettle ∧ t.pollCount = sat32 (polls.length + 1) := by
  have hnext := nextAnswers_of_draws hdraws
  obtain rfl := h.cfg
  have hbelow : BelowLimit polls.length s := by simpa [BelowLimit, hcount] using hlimit
  have hpolls := leg_polled hcode h.left
    (fun j hj => hset _ (hnext ▸ List.mem_map_of_mem (List.mem_range.mpr hj))) hbelow
  rw [hnext] at hpolls
  have hanswer : (polled polls.length s).answer = c := by
    apply answer_of_draws (ds := ds)
    simp [polled, hdraws]
  have hlast := leg_cleared (h.drop hpolls.steps) hcode (hanswer ▸ hclear)
  rw [hanswer] at hlast
  refine ⟨_, (hpolls.trans hlast).congr (fun j _ => ite_self _) rfl, rfl, rfl, ?_⟩
  simp [cleared, polled, hcount, sat32_sat32_add]

/-- `INIT_STATE` over time from INIT to the poll that reads clear. -/
def codesToSettle (j : Nat) : BitVec 4 := if j < 1 then 0#4 else if j < 2 then 1#4 else 2#4

/-- The legs up to SETTLE: INIT, RESET_WR and POLL, with the answers they take. -/
theorem exists_leg_to_settle {a0 c : BusAnswer} {polls ds : List BusAnswer}
    (hcode : s.initState = InitState.idle.code) (htxq : s.txq = []) (hhalted : s.halted = false)
    (hclosed : s.msgOpen = false) (hevent : s.event = .controller (some (encode .init)))
    (hdraws : s.draws = a0 :: (polls ++ c :: ds)) (h : Driven p (1 + (1 + (polls.length + 1))) s)
    (hset : ∀ a, a ∈ polls → readsClear p a = false) (hclear : readsClear p c = true)
    (hlimit : p.pollLimit = 0#32 ∨ polls.length < p.pollLimit.toNat) :
    ∃ t, Leg (1 + (1 + (polls.length + 1))) codesToSettle
      (.write p.devAddr p.regPwr p.pwrResetValue a0.ok :: (polls.map (pollOf p) ++ [pollOf p c])) s t ∧
      t.initState = InitState.settle.code ∧ t.delay = p.tSettle ∧ t.pollCount = sat32 (polls.length + 1) := by
  have hinit := leg_init h.safe hcode htxq hhalted hclosed hevent
  have h1 := h.drop hinit.steps
  have hreset := leg_resetWr h1.left rfl
  rw [answer_of_draws (hinit.draws.trans hdraws)] at hreset
  have hdraws' := (hinit.trans hreset).draws.trans (congrArg (List.drop 1) hdraws)
  obtain ⟨t, hpoll, ht⟩ := exists_leg_poll rfl rfl hdraws' (h1.drop hreset.steps) hset hclear hlimit
  refine ⟨t, (hinit.trans (hreset.trans hpoll)).congr (fun j _ => ?_) rfl, ht⟩
  exact if_congr .rfl rfl (if_congr (by omega) rfl rfl)

/-- The two halves of `INIT_STATE` over time are R116's table. -/
theorem codes_eq_table (p : Params) (m j : Nat) :
    (if j < 1 + (1 + m) then codesToSettle j else codesFromSettle p (j - (1 + (1 + m)))) =
      if j = 0 then 0#4 else if j = 1 then 1#4 else if j < 2 + m then 2#4
      else if j < 3 + m + p.tSettle.toNat then 3#4 else if j = 3 + m + p.tSettle.toNat then 4#4
      else if j < 5 + m + p.tSettle.toNat + p.tSpr.toNat then 5#4 else 6#4 := by
  split
  · exact if_ctx_congr (by omega) (fun _ => rfl) fun h0 =>
      if_ctx_congr (by omega) (fun _ => rfl) fun h1 => (if_pos (by omega)).symm
  · rw [if_neg (by omega), if_neg (by omega), if_neg (by omega)]
    exact if_ctx_congr (by omega) (fun _ => rfl) fun h3 =>
      if_ctx_congr (by omega) (fun _ => rfl) fun h4 => if_congr (by omega) rfl rfl

/-- Settles O25: the legs of INIT put end to end, and their `INIT_STATE` over time as R116's table. -/
theorem initTakesExactSteps : Obligations.InitTakesExactSteps := by
  intro s cs es a0 polls c a1 a2 ds k n hsafe hcode htxq hhalted hclosed hk hn hcs hevents hdraws hset hclear hlimit
  have hevent : s.event = .controller (some (encode .init)) := by
    rw [State.event, hevents]
    rfl
  have hdraws' : s.draws = a0 :: (polls ++ c :: (a1 :: a2 :: ds)) := by simpa using hdraws
  have hlength : n = 1 + (1 + (polls.length + 1)) +
      (s.cfg.tSettle.toNat + 1 + (1 + (s.cfg.tSpr.toNat + 1 + 1))) := by omega
  have hdriven : Driven s.cfg n s := hcs ▸ driven_of_events (cs := some (encode .init) :: cs) hsafe hevents
  rw [hlength] at hdriven
  obtain ⟨u, hfirst, hu, hdelay, hcount⟩ := exists_leg_to_settle hcode htxq hhalted hclosed hevent hdraws'
    hdriven.left hset hclear (hlimit.imp_right (by omega))
  have hdrawsu : u.draws = a1 :: a2 :: ds := by simp [hfirst.draws, hdraws']
  obtain ⟨t, hsecond, ht, hcount'⟩ := exists_leg_from_settle hu hdelay hdrawsu (hdriven.drop hfirst.steps)
  have hleg := hfirst.trans hsecond
  rw [← hlength] at hleg
  have htxq' := hleg.frame.txq.trans htxq
  have hstable : t.transient = false := by rw [State.transient, ht]; rfl
  refine ⟨fun j v hj hrun => ?_, t, hleg.steps, ht, ?_, busy_eq_false_iff.mpr ⟨hstable, htxq'⟩, ?_, ?_, ?_,
    hleg.frame.record, hleg.frame.out, htxq'⟩
  · rw [hleg.codes j v hj hrun, hk]
    exact codes_eq_table s.cfg (polls.length + 1) j
  · rw [hcount', hcount, sat32_toNat_eq_min, hk]
  · simp [hleg.bus]
  · simp [steps_events hleg.steps, hevents, ← hcs]
  · simp [hleg.draws, hdraws']

end Sys2Proof.Machine
end

section
/-! PROOFS. An initialization whose device reads clear ends (40_sensor_interface.md R117, 70_reset_and_hazards.md R206):
a bound on the controller's turns that are still needed falls with each of them, and no other turn raises it. -/

namespace Sys2Proof.Machine

open Sys2Proof.Claims

variable {s t : State} {m n : Nat}

/-! ### The bound, state by state -/

/-- At most `m` turns of the controller are needed from the state `i`: a poll per answer up to one that reads clear,
each delay with its exit step, and one for each write. -/
def TurnsSuffice (m : Nat) (s : State) : InitState → Prop
  | .idle => False
  | .resetWr => ∃ k, readsClear s.cfg (s.drawAt (k + 1)) = true ∧ k + 6 + s.cfg.tSettle.toNat + s.cfg.tSpr.toNat ≤ m
  | .poll => ∃ k, readsClear s.cfg (s.drawAt k) = true ∧ k + 5 + s.cfg.tSettle.toNat + s.cfg.tSpr.toNat ≤ m
  | .settle => s.delay.toNat + 4 + s.cfg.tSpr.toNat ≤ m
  | .sprWr => 3 + s.cfg.tSpr.toNat ≤ m
  | .sprDly => s.delay.toNat + 2 ≤ m
  | .clkWr => 1 ≤ m
  | .configured | .initTimeout => True

/-- `INIT_STATE` is named, and at most `m` turns of the controller are needed from the state it names. -/
def EndsWithin (m : Nat) (s : State) : Prop := ∃ i : InitState, s.initState = i.code ∧ TurnsSuffice m s i

/-- CONFIGURED or INIT_TIMEOUT (R107, R108). -/
def Ended (s : State) : Prop := s.initState = InitState.configured.code ∨ s.initState = InitState.initTimeout.code

theorem endsWithin_of_ended (h : Ended s) (m : Nat) : EndsWithin m s := by
  obtain h | h := h
  · exact ⟨.configured, h, trivial⟩
  · exact ⟨.initTimeout, h, trivial⟩

theorem ended_of_not_transient (h : EndsWithin m s) (hstable : s.transient = false) : Ended s := by
  obtain ⟨i, hcode, hturns⟩ := h
  cases i with
  | idle => exact hturns.elim
  | configured => exact .inl hcode
  | initTimeout => exact .inr hcode
  | resetWr | poll | settle | sprWr | sprDly | clkWr =>
    rw [transient_of_code hcode (by decide)] at hstable
    cases hstable

/-- A bound of 0 is met only at the end. -/
theorem ended_of_endsWithin_zero (h : EndsWithin 0 s) : Ended s := by
  obtain ⟨i, hcode, hturns⟩ := h
  cases i with
  | idle => exact hturns.elim
  | configured => exact .inl hcode
  | initTimeout => exact .inr hcode
  | resetWr | poll =>
    obtain ⟨k, _, hk⟩ := hturns
    omega
  | settle | sprWr | sprDly | clkWr =>
    simp only [TurnsSuffice] at hturns
    omega

/-! ### Each turn of the controller lowers it -/

/-- A poll that reads clear leads to SETTLE, one at the limit ends the initialization, and any other takes the answer
before the one that reads clear. -/
theorem endsWithin_fsmPoll (hcode : s.initState = InitState.poll.code) (h : TurnsSuffice m s .poll) :
    EndsWithin (m - 1) (fsmPoll s) := by
  obtain ⟨k, hclear, hk⟩ := h
  cases hread : readsClear s.cfg s.answer with
  | true =>
    rw [fsmPoll_of_clear hread]
    exact ⟨.settle, rfl, show s.cfg.tSettle.toNat + 4 + s.cfg.tSpr.toNat ≤ m - 1 by omega⟩
  | false =>
    obtain _ | k := k
    · rw [← answer_eq_drawAt, hread] at hclear
      cases hclear
    · by_cases hlimit : s.cfg.pollLimit ≠ 0#32 ∧ s.cfg.pollLimit.toNat ≤ (sat32 (s.pollCount.toNat + 1)).toNat
      · rw [fsmPoll_of_limit hread hlimit.1 hlimit.2]
        exact ⟨.initTimeout, rfl, trivial⟩
      · rw [fsmPoll_of_set hcode hread (by rwa [not_and_or, not_not, not_le] at hlimit)]
        refine ⟨.poll, hcode, k, ?_, show k + 5 + s.cfg.tSettle.toNat + s.cfg.tSpr.toNat ≤ m - 1 by omega⟩
        rw [drawAt_of_transaction (s := s) rfl rfl]
        exact hclear

/-- A delay step exits at 0, or counts down. -/
theorem endsWithin_delayStep {i exit : InitState} (hcode : s.initState = i.code)
    (hexit : s.delay = 0#32 → TurnsSuffice m { s with initState := exit.code } exit)
    (hstay : (s.delay - 1#32).toNat < s.delay.toNat → TurnsSuffice m { s with delay := s.delay - 1#32 } i) :
    EndsWithin m (delayStep exit s) := by
  obtain ⟨hzero, h⟩ | ⟨hrunning, h⟩ := delayStep_cases s exit <;> rw [h]
  · exact ⟨exit, rfl, hexit hzero⟩
  · exact ⟨i, hcode, hstay (by bv_omega)⟩

theorem endsWithin_fsmStep (htransient : s.transient = true) (h : EndsWithin m s) :
    EndsWithin (m - 1) (fsmStep s) := by
  obtain ⟨i, hcode, hturns⟩ := h
  cases i with
  | idle => exact hturns.elim
  | configured | initTimeout => simp [State.transient, hcode] at htransient
  | resetWr =>
    obtain ⟨k, hclear, hk⟩ := hturns
    rw [fsmStep_resetWr s hcode]
    refine ⟨.poll, rfl, k, ?_, show k + 5 + s.cfg.tSettle.toNat + s.cfg.tSpr.toNat ≤ m - 1 by omega⟩
    rw [drawAt_of_transaction (s := s) rfl rfl]
    exact hclear
  | poll =>
    rw [fsmStep_poll s hcode]
    exact endsWithin_fsmPoll hcode hturns
  | settle =>
    rw [fsmStep_settle s hcode]
    simp only [TurnsSuffice] at hturns
    exact endsWithin_delayStep hcode (fun _ => show 3 + s.cfg.tSpr.toNat ≤ m - 1 by omega)
      fun hless => show (s.delay - 1#32).toNat + 4 + s.cfg.tSpr.toNat ≤ m - 1 by omega
  | sprWr =>
    rw [fsmStep_sprWr s hcode]
    simp only [TurnsSuffice] at hturns
    exact ⟨.sprDly, rfl, show s.cfg.tSpr.toNat + 2 ≤ m - 1 by omega⟩
  | sprDly =>
    rw [fsmStep_sprDly s hcode]
    simp only [TurnsSuffice] at hturns
    exact endsWithin_delayStep hcode (fun _ => show 1 ≤ m - 1 by omega)
      fun hless => show (s.delay - 1#32).toNat + 2 ≤ m - 1 by omega
  | clkWr =>
    rw [fsmStep_clkWr s hcode]
    exact ⟨.configured, rfl, trivial⟩

/-! ### Runs -/

/-- Only a reset leaves CONFIGURED or INIT_TIMEOUT (R24). -/
theorem ended_step (hstep : step s = .next t) (hrst : s.event ≠ .rst) (h : Ended s) : Ended t := by
  by_cases hsame : t.initState = s.initState
  · rwa [Ended, hsame]
  · have hwriters := (initStateWriters s t hstep).2 hrst hsame
    obtain h | h := h <;> simp [h, InitState.code] at hwriters

/-- The turns that a step without a reset leaves, out of those that suffice. -/
theorem endsWithin_step (hinv : Inv s) (hrst : s.event ≠ .rst) (hstep : step s = .next t) (h : EndsWithin m s) :
    EndsWithin (m - if isControllerTurn s.event then 1 else 0) t := by
  cases htransient : s.transient with
  | false => exact endsWithin_of_ended (ended_step hstep hrst (ended_of_not_transient h htransient)) _
  | true =>
    have hturn := step_of_initialization (safe_iff.mpr ⟨hinv.configured, hinv.named⟩) htransient
      (hinv.exclusive htransient) hrst
    obtain rfl := Host.Outcome.next.inj (hstep.symm.trans hturn)
    cases isControllerTurn s.event with
    | false => exact h
    | true => exact endsWithin_fsmStep (s := s.tick) htransient h

/-- If the coming turns of the controller suffice, the run through them reaches the end. -/
theorem exists_steps_ended (hinv : Inv s) (hrst : NoReset n s) (h : EndsWithin m s) (hm : m ≤ controllerTurns s n) :
    ∃ t, Steps n s t ∧ Ended t := by
  induction n generalizing s m with
  | zero =>
    obtain rfl : m = 0 := Nat.le_zero.mp hm
    exact ⟨s, steps_zero.mpr rfl, ended_of_endsWithin_zero h⟩
  | succ n ih =>
    obtain ⟨u, hstep⟩ := step_of_safe (safe_iff.mpr ⟨hinv.configured, hinv.named⟩)
    rw [controllerTurns_succ hstep] at hm
    obtain ⟨t, hrest, ht⟩ := ih (everyStepKeepsTheInvariant s u hinv hstep) (hrst.tail hstep)
      (endsWithin_step hinv hrst.head hstep h) (by omega)
    exact ⟨t, steps_succ.mpr ⟨u, hstep, hrest⟩, ht⟩

/-- The bound holds in every transient state of the invariant, whose delays are within their loads. -/
theorem endsWithin_of_transient {k : Nat} (hinv : Inv s) (htransient : s.transient = true) (hpos : 0 < k)
    (hclear : readsClear s.cfg (s.drawAt k) = true) :
    EndsWithin (k + 5 + s.cfg.tSettle.toNat + s.cfg.tSpr.toNat) s := by
  obtain ⟨hc, _⟩ | ⟨hc, _⟩ | ⟨hc, _⟩ | ⟨hc, _⟩ | ⟨hc, _⟩ | ⟨hc, _⟩ := transient_cases s htransient
  · obtain ⟨k, rfl⟩ : ∃ j, k = j + 1 := ⟨k - 1, by omega⟩
    exact ⟨.resetWr, hc, k, hclear, by omega⟩
  · exact ⟨.poll, hc, k, hclear, le_rfl⟩
  · have hdelay := hinv.delaySettle hc
    exact ⟨.settle, hc, show s.delay.toNat + 4 + s.cfg.tSpr.toNat ≤ _ by omega⟩
  · exact ⟨.sprWr, hc, show 3 + s.cfg.tSpr.toNat ≤ _ by omega⟩
  · have hdelay := hinv.delaySpr hc
    exact ⟨.sprDly, hc, show s.delay.toNat + 2 ≤ _ by omega⟩
  · exact ⟨.clkWr, hc, show 1 ≤ _ by omega⟩

/-- Settles O28: the bound holds at the start, and the counted turns of the controller use it up. -/
theorem initEndsWithinABound : Obligations.InitEndsWithinABound := fun _ _ _ hinv htransient hrst hpos hclear hturns =>
  exists_steps_ended hinv hrst (endsWithin_of_transient hinv htransient hpos hclear) hturns

end Sys2Proof.Machine
end

section
/-! PROOFS. The frame commands (41_framing.md R134 to R143): each one at every block, by its acceptance checks and the
bytes it emits. -/

namespace Sys2Proof.Machine

open Sys2Proof.Claims

variable {s : State} {i : Instr}

/-! ### The checks of a frame command -/

/-- A command with the checks of `verdict_closed` needs a closed message and then has its effect (R133). -/
theorem closedCommand_effectOf (h : i.opcode ∈ [0x03#8, 0x10#8, 0x11#8, 0x12#8, 0x13#8, 0x14#8, 0x17#8])
    (s : State) : ClosedCommand i s (effectOf i s) := by
  apply closedCommand_of_exec
  rw [exec_eq_accept, accept, verdict_closed s h]
  cases s.halted <;> cases s.msgOpen <;> rfl

/-- A command with the checks of `verdict_open` needs an open message and then has its effect (R133). -/
theorem openCommand_effectOf (h : i.opcode ∈ [0x15#8, 0x16#8]) (s : State) : OpenCommand i s (effectOf i s) := by
  refine ⟨fun hhalted => ?_, fun hhalted hopen => ?_, fun hhalted hopen => ?_⟩ <;>
    rw [exec_eq_accept, accept, verdict_open s h, hhalted]
  · rfl
  · rw [hopen]
    rfl
  · rw [hopen]
    rfl

theorem exec_of_closedCommand {e : State} (h : ClosedCommand i s e) (hhalted : s.halted = false)
    (hclosed : s.msgOpen = false) : exec i s = .next e := h.2.2 hhalted hclosed

theorem exec_of_openCommand {e : State} (h : OpenCommand i s e) (hhalted : s.halted = false)
    (hopen : s.msgOpen = true) : exec i s = .next e := h.2.2 hhalted hopen

/-! ### The emitted bytes -/

/-- The model's frame of a record is the written-out one, in either byte order (20_memory.md R55). -/
theorem elementFrame_eq_element (s : State) : elementFrame s.cfg.recLittleEndian s.record = element s := by
  rw [elementFrame, element]
  cases s.cfg.recLittleEndian <;> rfl

theorem element_length (s : State) : (element s).length = 21 := by
  rw [← elementFrame_eq_element, elementFrame, List.length_cons, recBytes_length]
  rfl

theorem hexDigit_eq_hex (d : BitVec 4) : hexDigit d = hex d := by
  revert d
  decide

/-! ### The commands -/

/-- Settles O29, by the checks of DATA_START. -/
theorem dataStartEmitsItsTag : Obligations.DataStartEmitsItsTag := closedCommand_effectOf (by decide)

/-- Settles O30, by the checks of DATA_ELEMENT and the bytes of its frame. -/
theorem dataElementEmitsTheRecord : Obligations.DataElementEmitsTheRecord := fun s => by
  rw [← elementFrame_eq_element]
  exact closedCommand_effectOf (by decide) s

/-- Settles O31, by the checks of DATA_END. -/
theorem dataEndEmitsItsTag : Obligations.DataEndEmitsItsTag := closedCommand_effectOf (by decide)

/-- Settles O32, by the checks of HEARTBEAT. -/
theorem heartbeatEmitsItsTag : Obligations.HeartbeatEmitsItsTag := closedCommand_effectOf (by decide)

/-- Settles O33, by the checks of MSG_OPEN. -/
theorem msgOpenEmitsTheTagAndOpens : Obligations.MsgOpenEmitsTheTagAndOpens := closedCommand_effectOf (by decide)

/-- Settles O34, by the checks of MSG_CHAR, which do not depend on its byte. -/
theorem msgCharEmitsTheByte : Obligations.MsgCharEmitsTheByte := fun s c =>
  openCommand_effectOf (i := .msgChar c) (by simp [Instr.opcode]) s

/-- Settles O35, by the checks of MSG_CLOSE, which do not depend on `LN`. -/
theorem msgCloseTerminatesTheMessage : Obligations.MsgCloseTerminatesTheMessage := fun s ln =>
  openCommand_effectOf (i := .msgClose ln) (by simp [Instr.opcode]) s

/-- Settles O36, by the checks of ERROR_CODE and the two digits of its frame. -/
theorem errorCodeEmitsOneMessage : Obligations.ErrorCodeEmitsOneMessage := fun s c => by
  rw [← hexDigit_eq_hex, ← hexDigit_eq_hex]
  exact closedCommand_effectOf (i := .errorCode c) (by simp [Instr.opcode]) s

/-- FATAL at any block: dropped or performed, never rejected (R143). -/
theorem exec_fatal (s : State) : exec .fatal s = .next (if s.halted then s else effectOf .fatal s) := by
  rw [exec_eq_accept, accept, Instr.opcode, verdict_fatal]
  cases s.halted <;> rfl

/-- Settles O37, by the two cases of FATAL's acceptance; that `BUSY` = 0 is checked by the step before it (log 14). -/
theorem fatalEmitsItsFramesAndHalts : Obligations.FatalEmitsItsFramesAndHalts := by
  intro s _
  refine ⟨fun hhalted => ?_, fun hhalted => ?_⟩ <;> rw [exec_fatal, hhalted] <;> rfl

end Sys2Proof.Machine
end

section
/-! PROOFS. The transport, and what a run of served commands puts on the stream (41_framing.md R130, R132, R138 to R140,
R144). -/

namespace Sys2Proof.Machine

open Sys2Proof.Claims

variable {s : State} {i : Instr} {n k : Nat} {xs ys : List Byte} {m m' : Bool} {es es' : List Event}

/-! ### The transport's turn -/

/-- The transport's turn of a safe state is its step, after the choice is taken off. -/
theorem step_eq_transportStep (hsafe : s.safe = true) {ready : Bool} (hevent : s.event = .transport ready) :
    step s = .next (s.tick.transportStep ready) := by
  obtain ⟨hcfg, hnamed⟩ := safe_iff.mp hsafe
  have hcode : s.tick.unnamedCode = none := hnamed
  rw [step_of_wellFormed hcfg, hevent, turn, hcode]

/-- The step in which the transport accepts a byte (R132). -/
theorem step_of_taken {b : Byte} {rest : List Byte} (hsafe : s.safe = true) (hevent : s.event = .transport true)
    (htxq : s.txq = b :: rest) : step s = .next { s.tick with txq := rest, out := s.out ++ [b] } :=
  (step_eq_transportStep hsafe hevent).trans (congrArg _ (transportStep_cons s.tick htxq))

/-- Only a byte that the transport accepts changes the stream. -/
theorem taken_of_out_ne {t : State} (hstep : step s = .next t) (hout : t.out ≠ s.out) :
    s.event = .transport true ∧ s.txq ≠ [] := by
  cases step_effect hstep with
  | reset | wait | reject => exact absurd rfl hout
  | fsm => exact absurd (fsmStep_out s.tick) hout
  | perform _ _ _ _ i => exact absurd (effectOf_out i s.tick) hout
  | send hevent b rest htxq => exact ⟨hevent, by simp [htxq]⟩

/-- Settles O38: the outputs by their definitions, and the transport's turn by whether it accepts a byte. -/
theorem transportTakesOneByte : Obligations.TransportTakesOneByte := by
  refine fun s => ⟨decide_eq_true_iff, fun htxq => by simp [State.busy, htxq], fun _ => taken_of_out_ne, fun hsafe =>
    ⟨fun b rest hevent htxq => ⟨?_, step_of_taken hsafe hevent htxq⟩, step_eq_transportStep hsafe,
      fun _ hevent htxq => step_of_transport hsafe htxq hevent⟩⟩
  rw [State.txData, htxq]

theorem event_of_events {e : Event} (h : s.events = e :: es) : s.event = e := by
  rw [State.event, h, List.headD_cons]

theorem drained_eq_self (htxq : s.txq = []) : s.drained = s := by
  cases s
  simp_all [State.drained]

/-- With a turn listed for each waiting byte, the transport takes them all. -/
theorem steps_drained (hsafe : s.safe = true) (htxq : s.txq = xs)
    (hevents : s.events = List.replicate xs.length (.transport true) ++ es) :
    Steps xs.length s { s.drained with events := es, now := s.now + xs.length } := by
  induction xs generalizing s with
  | nil =>
    obtain rfl : s.events = es := hevents
    simp [drained_eq_self htxq]
  | cons b rest ih =>
    have hstep := step_of_taken hsafe (event_of_events hevents) htxq
    refine steps_succ.mpr ⟨_, hstep, ?_⟩
    have hrest := ih (step_safe hstep hsafe) rfl (congrArg List.tail hevents)
    simpa [State.drained, htxq, Nat.add_assoc, Nat.add_comm 1] using hrest

/-! ### Served commands -/

/-- The state `n` steps after `s`, with `xs` on the stream, `MSG_OPEN` at `m`, the choices `es` still to come, and all
else as in `s`. -/
def sent (n : Nat) (xs : List Byte) (m : Bool) (es : List Event) (s : State) : State :=
  { s with out := s.out ++ xs, msgOpen := m, events := es, now := s.now + n }

/-- The next `n` steps of `s` do nothing but put `xs` on the stream and bring `MSG_OPEN` to `m`. -/
def Sends (n : Nat) (xs : List Byte) (m : Bool) (es : List Event) (s : State) : Prop := Steps n s (sent n xs m es s)

theorem sent_sent : sent k ys m' es' (sent n xs m es s) = sent (n + k) (xs ++ ys) m' es' s := by
  simp [sent, Nat.add_assoc]

theorem Sends.append (h : Sends n xs m es s) (h' : Sends k ys m' es' (sent n xs m es s)) :
    Sends (n + k) (xs ++ ys) m' es' s :=
  steps_add.mpr ⟨_, h, sent_sent ▸ h'⟩

theorem sends_nil (hevents : s.events = es) : Sends 0 [] s.msgOpen es s := by
  subst hevents
  simp [Sends, sent]

/-- A block that accepts a word at once and does not drop it: sound, `BUSY` = 0 and not halted. -/
structure Serviceable (s : State) : Prop where
  safe : s.safe = true
  stable : s.transient = false
  idle : s.txq = []
  running : s.halted = false

theorem Serviceable.sent (h : Serviceable s) : Serviceable (sent n xs m es s) :=
  ⟨h.safe, h.stable, h.idle, h.running⟩

/-- A command that emits `xs` and sets `MSG_OPEN` to `m`, served: the step of its acceptance, and one per byte. -/
theorem sends_serve (h : Serviceable s) (hexec : exec i s.tick = .next { s.tick with txq := xs, msgOpen := m })
    (hevents : s.events = serve i xs.length ++ es) : Sends (xs.length + 1) xs m es s := by
  have hbusy : s.busy = false := busy_eq_false_iff.mpr ⟨h.stable, h.idle⟩
  have haccept : step s = .next { s.tick with txq := xs, msgOpen := m } :=
    (stepRunsDecodedCommand s _ i ⟨h.safe, event_of_events hevents, hbusy⟩ (decodeEncodeRoundTrip i)).trans hexec
  refine steps_succ.mpr ⟨_, haccept, ?_⟩
  have hdrained := steps_drained (step_safe haccept h.safe) rfl (congrArg List.tail hevents)
  simpa [State.drained, sent, h.idle, Nat.add_assoc, Nat.add_comm 1] using hdrained

/-- Whatever has been sent since `s`, the command emits `xs` and leaves all else, `MSG_OPEN` included. -/
def AlwaysEmits (i : Instr) (xs : List Byte) (s : State) : Prop :=
  ∀ n ys es, exec i (sent n ys s.msgOpen es s) = .next { sent n ys s.msgOpen es s with txq := xs }

theorem AlwaysEmits.exec_tick (h : AlwaysEmits i xs s) : exec i s.tick = .next { s.tick with txq := xs } := by
  have htick : sent 1 [] s.msgOpen s.events.tail s = s.tick := by simp [sent, State.tick]
  exact htick ▸ h 1 [] s.events.tail

theorem AlwaysEmits.sent (h : AlwaysEmits i xs s) : AlwaysEmits i xs (sent n ys s.msgOpen es s) := fun k zs fs => by
  rw [sent_sent]
  exact h (n + k) (ys ++ zs) fs

/-- Commands with their frames, served one after the other while none of them changes `MSG_OPEN`: all the frames, in
order. -/
theorem sends_frames {script : List (Instr × List Byte)} (h : Serviceable s)
    (hemits : ∀ p ∈ script, AlwaysEmits p.1 p.2 s)
    (hevents : s.events = (script.map fun p => serve p.1 p.2.length).flatten ++ es) :
    Sends (script.map fun p => p.2.length + 1).sum (script.map Prod.snd).flatten s.msgOpen es s := by
  induction script generalizing s with
  | nil => exact sends_nil hevents
  | cons p script ih =>
    rw [List.map_cons, List.flatten_cons, List.append_assoc] at hevents
    have hhead := sends_serve h (hemits p List.mem_cons_self).exec_tick hevents
    exact hhead.append (ih h.sent (fun q hq => (hemits q (List.mem_cons_of_mem p hq)).sent) rfl)

/-! ### Batches -/

/-- The commands of a batch of `n` samples, each with its frame (R144). -/
def batchScript (n : Nat) (s : State) : List (Instr × List Byte) :=
  (.dataStart, [0x01#8]) :: (List.replicate n (.dataElement, element s) ++ [(.dataEnd, [0x03#8])])

/-- Outside a message every command of a batch emits its frame; the record stays, and so does its frame. -/
theorem alwaysEmits_of_mem_batchScript (h : Serviceable s) (hclosed : s.msgOpen = false) {p : Instr × List Byte}
    (hp : p ∈ batchScript n s) : AlwaysEmits p.1 p.2 s := by
  intro k ys es
  simp only [batchScript, List.mem_cons, List.mem_append, List.mem_replicate, List.not_mem_nil, or_false] at hp
  obtain rfl | ⟨_, rfl⟩ | rfl := hp
  · exact exec_of_closedCommand (dataStartEmitsItsTag _) h.running hclosed
  · exact exec_of_closedCommand (dataElementEmitsTheRecord _) h.running hclosed
  · exact exec_of_closedCommand (dataEndEmitsItsTag _) h.running hclosed

/-- Settles O41: the batch is a list of commands that need a closed message and leave it closed, each with its frame. -/
theorem batchOfSamplesOnTheStream : Obligations.BatchOfSamplesOnTheStream := by
  intro s n es hsafe hstable htxq hhalted hclosed hevents
  have hready : Serviceable s := ⟨hsafe, hstable, htxq, hhalted⟩
  have hsends := sends_frames (es := es) hready (fun _ => alwaysEmits_of_mem_batchScript (n := n) hready hclosed)
    (by simp [batchScript, hevents, element_length])
  have hsteps : ((batchScript n s).map fun p => p.2.length + 1).sum = 22 * n + 4 := by
    simp +arith [batchScript, element_length]
  rw [hsteps] at hsends
  exact ⟨_, hsends, by simp [sent, batchScript], htxq, rfl, rfl, rfl⟩

/-! ### Messages -/

/-- In a message every MSG_CHAR emits its byte. -/
theorem alwaysEmits_msgChar (h : Serviceable s) (hopen : s.msgOpen = true) (c : Byte) :
    AlwaysEmits (.msgChar c) [c] s := fun _ _ _ =>
  exec_of_openCommand (msgCharEmitsTheByte _ c) h.running hopen

/-- In a message any text is put on the stream verbatim (R139). -/
theorem sends_text {text : List Byte} (h : Serviceable s) (hopen : s.msgOpen = true)
    (hevents : s.events = (text.map fun c => serve (.msgChar c) 1).flatten ++ es) :
    Sends (2 * text.length) text s.msgOpen es s := by
  have hsends := sends_frames (script := text.map fun c => (.msgChar c, [c])) (es := es) h
    (fun p hp => by
      obtain ⟨c, _, rfl⟩ := List.mem_map.mp hp
      exact alwaysEmits_msgChar h hopen c)
    (by simpa [Function.comp_def] using hevents)
  simpa [Function.comp_def, Nat.mul_comm, ← List.flatMap_def] using hsends

/-- Settles O42: MSG_OPEN opens the message, each MSG_CHAR keeps it open and sends its byte, and MSG_CLOSE ends it. -/
theorem messageOnTheStream : Obligations.MessageOnTheStream := by
  intro s text ln es hsafe hstable htxq hhalted hclosed hevents
  have hready : Serviceable s := ⟨hsafe, hstable, htxq, hhalted⟩
  have hlength : (if ln then [0x0A#8, 0x00#8] else [0x00#8]).length = if ln then 2 else 1 := by cases ln <;> rfl
  rw [← hlength, List.append_assoc, List.append_assoc] at hevents
  have hopen := sends_serve hready (exec_of_closedCommand (msgOpenEmitsTheTagAndOpens s.tick) hhalted hclosed) hevents
  have hsends := hopen.append ((sends_text hready.sent rfl rfl).append
    (sends_serve hready.sent.sent (exec_of_openCommand (msgCloseTerminatesTheMessage _ ln) hhalted rfl) rfl))
  have hsteps : [0x00#8].length + 1 + (2 * text.length + ((if ln then [0x0A#8, 0x00#8] else [0x00#8]).length + 1)) =
      2 * text.length + (if ln then 5 else 4) := by cases ln <;> simp +arith
  rw [hsteps] at hsends
  exact ⟨_, hsends, by simp [sent], htxq, rfl, rfl, rfl, rfl⟩

end Sys2Proof.Machine
end

section
/-! PROOFS. The one exception of the block and its fail-stop (60_exceptions.md R171, R173, R176 to R178, R185): what an
accepted word meets, what a halted block still does, and that no run stops. -/

namespace Sys2Proof.Machine

open Sys2Proof.Claims

variable {s t u : State}

/-! ### The halted block -/

/-- From `s` to `t` waiting bytes may have left, in order, and turns have been taken; nothing else has happened. -/
structure OnlySends (s t : State) : Prop where
  stream : t.out ++ t.txq = s.out ++ s.txq
  frame : t = { s with txq := t.txq, out := t.out, events := t.events, now := t.now }

theorem OnlySends.refl (s : State) : OnlySends s s := ⟨rfl, rfl⟩

theorem OnlySends.trans (h : OnlySends s t) (h' : OnlySends t u) : OnlySends s u :=
  ⟨h'.stream.trans h.stream, h'.frame.trans
    (congrArg (fun v => { v with txq := u.txq, out := u.out, events := u.events, now := u.now }) h.frame)⟩

/-- A sound fail-stopped block with a stable FSM (R178). -/
structure Stopped (s : State) : Prop where
  safe : s.safe = true
  halted : s.halted = true
  stable : s.transient = false

/-- Without a reset, only a wait and a taken byte are possible in a halted block. -/
theorem Stopped.onlySends (h : Stopped s) (hstep : step s = .next t) (hrst : s.event ≠ .rst) : OnlySends s t := by
  cases step_effect hstep with
  | reset hevent => exact absurd hevent hrst
  | fsm _ _ htransient => exact absurd htransient (by simp [h.stable])
  | wait => exact ⟨rfl, rfl⟩
  | reject _ _ _ hhalted | perform _ _ _ hhalted => exact absurd h.halted (by simp [hhalted])
  | send _ b rest htxq => exact ⟨by simp [htxq], rfl⟩

theorem Stopped.step (h : Stopped s) (hstep : step s = .next t) (hrst : s.event ≠ .rst) : Stopped t := by
  have hframe := (h.onlySends hstep hrst).frame
  exact ⟨step_safe hstep h.safe, (congrArg State.halted hframe).trans h.halted,
    (congrArg State.transient hframe).trans h.stable⟩

/-- A halted block runs for any number of steps, and only sends. -/
theorem Stopped.exists_steps {n : Nat} (h : Stopped s) (hrst : NoReset n s) : ∃ t, Steps n s t ∧ OnlySends s t := by
  induction n generalizing s with
  | zero => exact ⟨s, steps_zero.mpr rfl, .refl s⟩
  | succ n ih =>
    obtain ⟨u, hstep⟩ := step_of_safe h.safe
    obtain ⟨t, hsteps, hsends⟩ := ih (h.step hstep hrst.head) (hrst.tail hstep)
    exact ⟨t, steps_succ.mpr ⟨u, hstep, hsteps⟩, (h.onlySends hstep hrst.head).trans hsends⟩

/-- Settles O44: each step of a halted block only sends, and so does their sequence. -/
theorem haltedBlockStaysSilent : Obligations.HaltedBlockStaysSilent := by
  intro n s hsafe hhalted hstable hrst
  obtain ⟨t, hsteps, hsends⟩ := Stopped.exists_steps ⟨hsafe, hhalted, hstable⟩ hrst
  exact ⟨fun hbusy => by rw [State.cmdReady, hbusy]; rfl, t, hsteps, hsends.stream, hsends.frame⟩

/-! ### The checks at acceptance -/

/-- Every word, decodable or not, is accepted by the checks of its opcode. -/
theorem acceptWord_eq_accept (w : Command) (s : State) : ∃ effect, acceptWord w s = accept w.op effect s := by
  by_cases hop : w.op ∈ assignedOpcodes
  · obtain ⟨i, hdecode, hopcode⟩ := decode_assigned hop
    exact ⟨effectOf i, by rw [acceptWord_of_decode hdecode, exec_eq_accept, hopcode]⟩
  · exact ⟨id, by rw [acceptWord, decode_unassigned hop]⟩

/-- A halted block drops the word. -/
theorem acceptWord_of_halted (w : Command) (h : s.halted = true) : acceptWord w s = .next s := by
  obtain ⟨effect, haccept⟩ := acceptWord_eq_accept w s
  have hverdict : verdict w.op s = .drop := if_pos h
  rw [haccept, accept, hverdict]

theorem acceptWord_of_reject {w : Command} {cause : RejCause} (h : verdict w.op s = .reject cause) :
    acceptWord w s = .next (s.raiseReject cause) := by
  obtain ⟨effect, haccept⟩ := acceptWord_eq_accept w s
  rw [haccept, accept, h]

/-- In a message, every assigned command but MSG_CHAR, MSG_CLOSE and FATAL is rejected with cause 2. -/
theorem verdict_msgInProgress {op : Byte} (hhalted : s.halted = false) (hop : op ∈ assignedOpcodes)
    (hopen : s.msgOpen = true) (hother : op ∉ [0x15#8, 0x16#8, 0x1F#8]) :
    verdict op s = .reject .msgInProgress := by
  rw [verdict, if_neg (by simp [hhalted]), if_neg (not_not.mpr hop), if_pos ⟨hopen, hother⟩]

/-- Settles O16: the step accepts the word, and the word's opcode decides the verdict. -/
theorem acceptanceChecksInOrder : Obligations.AcceptanceChecksInOrder := by
  intro s w op haccepts hop
  obtain rfl : op = w.op := hop
  have hreject {cause : RejCause} (h : verdict w.op s = .reject cause) :
      step s = .next (rejected cause.code (ticked s)) :=
    (step_of_accepts haccepts).trans (acceptWord_of_reject (s := s.tick) h)
  rw [unassigned_iff, not_not]
  refine ⟨fun hhalted => ?_, fun hhalted => ⟨fun hop => ?_, fun hop => ⟨fun hopen hchar hclose hfatal => ?_,
    fun hclosed hmsg => ?_, fun hclosed hinit hcode => ?_, fun hclosed hread hcode => ?_, fun _ _ _ _ => ?_⟩⟩⟩
  · exact (step_of_accepts haccepts).trans (acceptWord_of_halted (s := s.tick) w hhalted)
  · refine hreject (cause := .illegalOpcode) ?_
    rw [verdict_unassigned s hop, hhalted]
    rfl
  · exact hreject (verdict_msgInProgress hhalted hop hopen (by simp [hchar, hclose, hfatal]))
  · refine hreject (cause := .noMsgOpen) ?_
    rw [verdict_open s (by simpa using hmsg), hhalted, hclosed]
    rfl
  · refine hreject (cause := .initState) ?_
    rw [hinit, verdict_init, hhalted, hclosed]
    exact if_neg hcode
  · refine hreject (cause := .initState) ?_
    rw [hread, verdict_read, hhalted, hclosed]
    exact if_neg hcode
  · obtain ⟨i, hdecode, hopcode⟩ := decode_assigned hop
    exact ⟨i, hdecode, hopcode, stepRunsDecodedCommand s w i haccepts hdecode⟩

/-! ### Fail-stop and rejection -/

/-- Settles O50: of the effects of a step, only a performed FATAL sets `HALTED`. -/
theorem failStopOnlyByFatal : Obligations.FailStopOnlyByFatal := by
  intro s t hstep hrunning hhalted
  have hchange : t.halted ≠ s.halted := by simp [hrunning, hhalted]
  cases step_effect hstep with
  | reset => exact absurd hrunning.symm hchange
  | fsm => exact absurd (fsmStep_halted _) hchange
  | wait | reject | send => exact absurd rfl hchange
  | perform w hevent hbusy _ i hdecode =>
    by_cases hfatal : i = .fatal
    · subst hfatal
      exact ⟨hbusy, ⟨w, hevent, hdecode⟩, rfl⟩
    · exact absurd (effectOf_halted hfatal s.tick) hchange

/-- The causes of a rejection are 1 to 4 (R170). -/
theorem code_toNat_range {cause : RejCause} (h : cause ≠ .none) : 1 ≤ cause.code.toNat ∧ cause.code.toNat ≤ 4 := by
  cases cause with
  | none => exact absurd rfl h
  | illegalOpcode | msgInProgress | noMsgOpen | initState => decide

/-- A rejection after the first one since reset changes nothing (R171). -/
theorem Inv.raiseReject_eq_self (h : Inv s) (hrecorded : s.rejCause ≠ 0#3) (cause : RejCause) :
    s.raiseReject cause = s := by
  rw [State.raiseReject, firstCause_of_ne hrecorded, ← h.caused.mpr hrecorded]

/-- Settles O51: of the effects of a step without a reset, only a rejection writes the two fields, and by the invariant
only the first since reset changes them. -/
theorem rejectionIsPrecise : Obligations.RejectionIsPrecise := by
  intro s t hinv hstep hrst hchange
  cases step_effect hstep with
  | reset hevent => exact absurd hevent hrst
  | fsm | wait | perform | send => simp at hchange
  | reject w hevent hbusy hhalted cause hcause =>
    have hfirst : s.rejCause = 0#3 := by
      by_contra hrecorded
      rw [hinv.tick.raiseReject_eq_self hrecorded cause] at hchange
      simp at hchange
    have hnone : s.cmdRejected = false := by simpa [hfirst] using hinv.caused
    obtain ⟨hlow, hhigh⟩ := code_toNat_range hcause
    refine ⟨hhalted, hbusy, ⟨w, hevent⟩, hnone, hfirst, cause.code, hlow, hhigh, ?_⟩
    rw [State.raiseReject, State.tick_rejCause, firstCause, if_pos hfirst]
    rfl

/-! ### Runs and waits -/

theorem Inv.safe (h : Inv s) : s.safe = true := safe_iff.mpr ⟨h.configured, h.named⟩

/-- Settles O58, by induction on the number of steps: a state of the invariant has a next one. -/
theorem noRunStops : Obligations.NoRunStops := by
  intro n
  induction n with
  | zero => exact fun s hinv => ⟨s, steps_zero.mpr rfl, hinv⟩
  | succ n ih =>
    intro s hinv
    obtain ⟨u, hstep⟩ := step_of_safe hinv.safe
    obtain ⟨t, hrun, ht⟩ := ih u (everyStepKeepsTheInvariant s u hinv hstep)
    exact ⟨t, steps_succ.mpr ⟨u, hstep, hrun⟩, ht⟩

/-- With a stable FSM, and with bytes waiting or no word presented, the controller waits. -/
theorem controllerStep_of_wait {cmd : Option Command} (hstable : s.transient = false)
    (hwait : s.txq ≠ [] ∨ cmd = none) : controllerStep cmd s = .next s := by
  have hnoFsm : ¬ s.transient = true := by simp [hstable]
  obtain hpending | rfl := hwait
  · exact (if_neg hnoFsm).trans (if_pos hpending)
  · exact (if_neg hnoFsm).trans (ite_self _)

/-- IDLE, CONFIGURED and INIT_TIMEOUT are the stable states (R23, R33). -/
theorem stable_of_code (h : s.initState = 0#4 ∨ s.initState = 7#4 ∨ s.initState = 8#4) : s.transient = false := by
  obtain h | h | h := h <;> simp [State.transient, InitState.code, h]

/-- Settles O59: the turn of a stable controller that waits. -/
theorem idleTurnChangesNothing : Obligations.IdleTurnChangesNothing := by
  intro s cmd hsafe hevent hcode hwait
  exact (step_of_controller hsafe hevent).trans (controllerStep_of_wait (s := s.tick) (stable_of_code hcode) hwait)

end Sys2Proof.Machine
end

section
/-! PROOFS. Reset, and what no step without one undoes (70_reset_and_hazards.md R190). -/

namespace Sys2Proof.Machine

open Sys2Proof.Claims

variable {s t : State}

/-- With a sound configuration a reset is always a next state, even of a block that holds an unnamed code. -/
theorem step_of_rst (hcfg : s.cfg.wellFormed = true) (hrst : s.event = .rst) : step s = .next s.tick.applyReset := by
  rw [step_of_wellFormed hcfg, hrst, turn]

/-! ### The terminal states and the initialization hang -/

/-- No move of R24 starts from CONFIGURED or INIT_TIMEOUT. -/
theorem step_initState_of_terminal (hstep : step s = .next t) (hrst : s.event ≠ .rst)
    (hterminal : s.initState = 7#4 ∨ s.initState = 8#4) : t.initState = s.initState := by
  by_contra hchange
  have hwriters := (initStateWriters s t hstep).2 hrst hchange
  obtain hcode | hcode := hterminal <;> simp [hcode] at hwriters

/-- A poll that reads set with no limit leads back to POLL (R102), and POLL accepts no command. -/
theorem step_initState_of_endless_poll (hstep : step s = .next t) (hrst : s.event ≠ .rst)
    (hcode : s.initState = InitState.poll.code) (hlimit : s.cfg.pollLimit = 0#32)
    (hset : readsClear s.cfg s.answer = false) : t.initState = InitState.poll.code := by
  cases step_effect hstep with
  | reset hevent => exact absurd hevent hrst
  | fsm =>
    rw [fsmStep_poll s.tick hcode, fsmPoll_of_set (s := s.tick) hcode hset (.inl hlimit)]
    exact hcode
  | wait | reject | send => exact hcode
  | perform _ _ hbusy =>
    have hstable := (busy_eq_false_iff.mp hbusy).1
    exact absurd (transient_of_code hcode (by decide)) (by simp [hstable])

/-- A performed command needs a block that is not halted, and no other step writes `HALTED`. -/
theorem step_halted_of_halted (hstep : step s = .next t) (hrst : s.event ≠ .rst) (hhalted : s.halted = true) :
    t.halted = true := by
  cases step_effect hstep with
  | reset hevent => exact absurd hevent hrst
  | fsm => exact (fsmStep_halted s.tick).trans hhalted
  | wait | reject | send => exact hhalted
  | perform _ _ _ hrunning => exact absurd hhalted (by simp [hrunning])

/-! ### The error bits -/

/-- Without a reset the two rejection fields stay, or are those of one more rejection (R171). -/
theorem step_rejection_fields (hstep : step s = .next t) (hrst : s.event ≠ .rst) :
    (t.cmdRejected = s.cmdRejected ∧ t.rejCause = s.rejCause) ∨
      ∃ cause, t.cmdRejected = true ∧ t.rejCause = firstCause s.rejCause cause := by
  cases step_effect hstep with
  | reset hevent => exact absurd hevent hrst
  | fsm => exact .inl ⟨fsmStep_cmdRejected s.tick, fsmStep_rejCause s.tick⟩
  | wait | send => exact .inl ⟨rfl, rfl⟩
  | reject _ _ _ _ cause => exact .inr ⟨cause, rfl, rfl⟩
  | perform _ _ _ _ i => exact .inl ⟨effectOf_cmdRejected i s.tick, effectOf_rejCause i s.tick⟩

theorem step_cmdRejected_of_rejected (hstep : step s = .next t) (hrst : s.event ≠ .rst)
    (hrejected : s.cmdRejected = true) : t.cmdRejected = true := by
  obtain ⟨hstays, _⟩ | ⟨_, hset, _⟩ := step_rejection_fields hstep hrst
  · exact hstays.trans hrejected
  · exact hset

/-- The first cause since reset stays. -/
theorem step_rejCause_of_ne (hstep : step s = .next t) (hrst : s.event ≠ .rst) (hcause : s.rejCause ≠ 0#3) :
    t.rejCause = s.rejCause := by
  obtain ⟨_, hstays⟩ | ⟨cause, _, hfirst⟩ := step_rejection_fields hstep hrst
  · exact hstays
  · exact hfirst.trans (firstCause_of_ne hcause cause)

/-- `BUS_ERR` is latched: a step only ever adds to it (R172). -/
theorem step_busErr_of_busErr (hstep : step s = .next t) (hrst : s.event ≠ .rst) (herr : s.busErr = true) :
    t.busErr = true := by
  obtain ⟨xs, _, _, hlatched⟩ := (busErrorLatches.2 s t hstep).2 hrst
  simp [hlatched, herr]

/-- Settles O15: a reset's next state is `applyReset`'s, and one lemma per element says that a step without a reset
keeps it. -/
theorem resetSetsEverythingAndIsTheOnlyWayOut : Obligations.ResetSetsEverythingAndIsTheOnlyWayOut := by
  refine ⟨fun s hcfg hrst => step_of_rst hcfg hrst, fun s t hstep hrst => ⟨fun hcode => ?_, fun hcode => ?_,
    step_initState_of_endless_poll hstep hrst, step_halted_of_halted hstep hrst,
    step_cmdRejected_of_rejected hstep hrst, step_rejCause_of_ne hstep hrst, step_busErr_of_busErr hstep hrst⟩⟩
  · exact (step_initState_of_terminal hstep hrst (.inl hcode)).trans hcode
  · exact (step_initState_of_terminal hstep hrst (.inr hcode)).trans hcode

end Sys2Proof.Machine
end
